-- ==== Sys2Proof/Word.lean ====
section
/-! DEFINITION. The word types of the AES-128 core (spec 00_scope.md R7, 20_memory.md R42 to R45) and the
two operand enumerations of its command set (30_encoding.md R62, R67). -/

namespace Sys2Proof

/-- A byte: 8 bits, bit 0 of weight 1 (R7, R43). -/
abbrev Byte := BitVec 8

/-- A command word (R60). -/
abbrev Word := BitVec 32

/-- A buffer-space address (R40). -/
abbrev Addr := BitVec 16

/-- A 16-byte value X[0..15]: a key, a block, a round key or the State of the cipher (R7, R44). -/
abbrev Block := Vector Byte 16

/-- An expanded key W[0..175] (R26, R45). -/
abbrev ExpandedKey := Vector Byte 176

/-- Four bytes in order: one column of a State, rows 0 to 3 (R44), or one word of the key schedule (R45).
It is a sequence of bytes and never a 32-bit integer. -/
structure Column where
  b0 : Byte
  b1 : Byte
  b2 : Byte
  b3 : Byte
  deriving DecidableEq, Repr

/-- The TARGET of an avalanche experiment (R62). -/
inductive Target where
  | plaintext
  | key
  deriving DecidableEq, Repr

/-- The four 16-byte buffers COPY names (R67). -/
inductive Buf where
  | keyin
  | din
  | ref
  | dout
  deriving DecidableEq, Repr

end Sys2Proof
end

