-- ==== Sys2Proof/Syntax.lean ====
section
/-! DEFINITION. The 19 commands of the command set AESCORE-CMD v1 with their operands (30_encoding.md R63, R70),
in the order of the opcode table. -/

namespace Sys2Proof

/-- One command (R63). Operands carry the names of R62. -/
inductive Instr where
  /-- EXPANDKEY [len] (R106). -/
  | expandKey (len : Byte)
  /-- ENCRYPT [len] (R120). -/
  | encrypt (len : Byte)
  /-- DECRYPT [len] (R137). -/
  | decrypt (len : Byte)
  /-- AVALANCHE pos, target [, len] (R157). -/
  | avalanche (pos : Byte) (target : Target) (len : Byte)
  /-- SBOX b (R88). -/
  | sbox (b : Byte)
  /-- INVSBOX b (R89). -/
  | invSbox (b : Byte)
  /-- GFMUL c, b (R90). -/
  | gfMul (c b : Byte)
  /-- HAMMING (R156). -/
  | hamming
  /-- FLIPBIT pos (R155). -/
  | flipBit (pos : Byte)
  /-- SUBBYTES (R116). -/
  | subBytes
  /-- SHIFTROWS (R117). -/
  | shiftRows
  /-- MIXCOLUMNS (R118). -/
  | mixColumns
  /-- ADDROUNDKEY r (R119); well formed when r is 0 to 10. -/
  | addRoundKey (r : Byte)
  /-- INVSUBBYTES (R134). -/
  | invSubBytes
  /-- INVSHIFTROWS (R135). -/
  | invShiftRows
  /-- INVMIXCOLUMNS (R136). -/
  | invMixColumns
  /-- WRB addr, byte (R170). -/
  | wrb (addr : Addr) (data : Byte)
  /-- RDB addr (R171). -/
  | rdb (addr : Addr)
  /-- COPY dst, src (R172); well formed when dst is not DOUT. -/
  | copy (dst src : Buf)
  deriving DecidableEq, Repr

end Sys2Proof
end

