-- ==== Sys2Proof/WellFormed.lean ====
section
/-! DEFINITION. Which commands are well formed: the restricted operand sets of 30_encoding.md R67 that the types of
the operands do not already express (TARGET and the buffer names are enumerations; an address, a position and a
length of any value are legal encodings). -/

namespace Sys2Proof

/-- The check of R67: ADDROUNDKEY's index is 0 to 10 and COPY's destination is not DOUT. -/
def Instr.wellFormed : Instr → Bool
  | .expandKey _ => true
  | .encrypt _ => true
  | .decrypt _ => true
  | .avalanche _ _ _ => true
  | .sbox _ => true
  | .invSbox _ => true
  | .gfMul _ _ => true
  | .hamming => true
  | .flipBit _ => true
  | .subBytes => true
  | .shiftRows => true
  | .mixColumns => true
  | .addRoundKey r => decide (r.toNat ≤ 10)
  | .invSubBytes => true
  | .invShiftRows => true
  | .invMixColumns => true
  | .wrb _ _ => true
  | .rdb _ => true
  | .copy dst _ => decide (dst ≠ .dout)

abbrev Instr.WellFormed (i : Instr) : Prop := i.wellFormed = true

end Sys2Proof
end

