-- ==== Sys2Proof/Decode.lean ====
section
/-! DEFINITION. The encoding of the command set (30_encoding.md R60 to R67, R69): the fields of a command word, the
opcode map, the total decoder that rejects by name, the encoder, and the mask and match test of the opcode table. -/

namespace Sys2Proof

/-- The row of the opcode map a command belongs to (R63). -/
inductive Opcode where
  | expandKey | encrypt | decrypt | avalanche
  | sbox | invSbox | gfMul | hamming | flipBit
  | subBytes | shiftRows | mixColumns | addRoundKey
  | invSubBytes | invShiftRows | invMixColumns
  | wrb | rdb | copy
  deriving DecidableEq, Repr

/-- The seven formats (R61). -/
inductive Format where
  | z | a | ab | l | v | mw | mr
  deriving DecidableEq, Repr

/-- Why a word is no command: the three decode steps of R64, in their order. -/
inductive IllegalWord where
  /-- Step 1: OP is none of the 19 opcodes (R66). -/
  | undefinedOpcode
  /-- Step 2: a field the format fixes at zero is not zero (R65). -/
  | reservedField
  /-- Step 3: an operand is outside its restricted set (R67). -/
  | operandOutOfSet
  deriving DecidableEq, Repr

/-! ## The fields of the command word (R60) -/

def fieldOp (w : Word) : Byte := w.extractLsb' 0 8
def fieldA (w : Word) : Byte := w.extractLsb' 8 8
def fieldB (w : Word) : Byte := w.extractLsb' 16 8
def fieldC (w : Word) : Byte := w.extractLsb' 24 8

/-- ADDR = {C, B}, the upper half of the word (R60, R62). -/
def fieldAddr (w : Word) : Addr := w.extractLsb' 16 16

/-- The word with the four fields given (R60, R70). -/
def packWord (op a b c : Byte) : Word := c ++ b ++ a ++ op

/-- The word of format MW or MR: the address in the upper half (R61). -/
def packAddrWord (op a : Byte) (addr : Addr) : Word := addr ++ a ++ op

/-! ## The opcode map (R63) -/

def Opcode.all : List Opcode :=
  [.expandKey, .encrypt, .decrypt, .avalanche, .sbox, .invSbox, .gfMul, .hamming, .flipBit,
   .subBytes, .shiftRows, .mixColumns, .addRoundKey, .invSubBytes, .invShiftRows, .invMixColumns,
   .wrb, .rdb, .copy]

/-- The column OP of R63. -/
def Opcode.byte : Opcode → Byte
  | .expandKey => 0x01
  | .encrypt => 0x02
  | .decrypt => 0x03
  | .avalanche => 0x04
  | .sbox => 0x10
  | .invSbox => 0x11
  | .gfMul => 0x12
  | .hamming => 0x13
  | .flipBit => 0x14
  | .subBytes => 0x20
  | .shiftRows => 0x21
  | .mixColumns => 0x22
  | .addRoundKey => 0x23
  | .invSubBytes => 0x28
  | .invShiftRows => 0x29
  | .invMixColumns => 0x2A
  | .wrb => 0x30
  | .rdb => 0x31
  | .copy => 0x32

/-- The column format of R63. -/
def Opcode.format : Opcode → Format
  | .expandKey => .l
  | .encrypt => .l
  | .decrypt => .l
  | .avalanche => .v
  | .sbox => .a
  | .invSbox => .a
  | .gfMul => .ab
  | .hamming => .z
  | .flipBit => .a
  | .subBytes => .z
  | .shiftRows => .z
  | .mixColumns => .z
  | .addRoundKey => .a
  | .invSubBytes => .z
  | .invShiftRows => .z
  | .invMixColumns => .z
  | .wrb => .mw
  | .rdb => .mr
  | .copy => .ab

/-- The opcode with a given number, if there is one. -/
def opcodeOf (b : Byte) : Option Opcode := Opcode.all.find? fun o => o.byte == b

/-! ## Operand codes (R62, R67) -/

def Target.code : Target → Byte
  | .plaintext => 0
  | .key => 1

def targetOf (b : Byte) : Option Target := [Target.plaintext, .key].find? fun t => t.code == b

def Buf.code : Buf → Byte
  | .keyin => 0
  | .din => 1
  | .ref => 2
  | .dout => 3

/-- COPY's source set: 0 to 3 (R67). -/
def srcOf (b : Byte) : Option Buf := [Buf.keyin, .din, .ref, .dout].find? fun t => t.code == b

/-- COPY's destination set: 0 to 2; DOUT is no destination (R67). -/
def dstOf (b : Byte) : Option Buf := [Buf.keyin, .din, .ref].find? fun t => t.code == b

/-! ## Decoding (R64) -/

/-- R64 step 2: the fields a format does not use are zero (R61, R65). Formats V and MW use every field. -/
def reservedClear (f : Format) (w : Word) : Bool :=
  match f with
  | .z => fieldA w == 0 && fieldB w == 0 && fieldC w == 0
  | .a => fieldB w == 0 && fieldC w == 0
  | .ab => fieldC w == 0
  | .l => fieldA w == 0 && fieldB w == 0
  | .v => true
  | .mw => true
  | .mr => fieldA w == 0

/-- R64 step 3: the operands of a word whose opcode and reserved fields are good, or none where an operand is
outside its restricted set (R62, R67). -/
def operandsOf (o : Opcode) (w : Word) : Option Instr :=
  match o with
  | .expandKey => some (.expandKey (fieldC w))
  | .encrypt => some (.encrypt (fieldC w))
  | .decrypt => some (.decrypt (fieldC w))
  | .avalanche => (targetOf (fieldB w)).map fun t => .avalanche (fieldA w) t (fieldC w)
  | .sbox => some (.sbox (fieldA w))
  | .invSbox => some (.invSbox (fieldA w))
  | .gfMul => some (.gfMul (fieldB w) (fieldA w))
  | .hamming => some .hamming
  | .flipBit => some (.flipBit (fieldA w))
  | .subBytes => some .subBytes
  | .shiftRows => some .shiftRows
  | .mixColumns => some .mixColumns
  | .addRoundKey => if (fieldA w).toNat ≤ 10 then some (.addRoundKey (fieldA w)) else none
  | .invSubBytes => some .invSubBytes
  | .invShiftRows => some .invShiftRows
  | .invMixColumns => some .invMixColumns
  | .wrb => some (.wrb (fieldAddr w) (fieldA w))
  | .rdb => some (.rdb (fieldAddr w))
  | .copy =>
    match dstOf (fieldA w), srcOf (fieldB w) with
    | some dst, some src => some (.copy dst src)
    | _, _ => none

/-- Decoding of a command word, total on all 2^32 words (R64, R66). -/
def decode (w : Word) : Except IllegalWord Instr :=
  match opcodeOf (fieldOp w) with
  | none => .error .undefinedOpcode
  | some o =>
    if reservedClear o.format w then
      match operandsOf o w with
      | some i => .ok i
      | none => .error .operandOutOfSet
    else .error .reservedField

/-- The instruction the decoder reads from `nbits` bits `w` numbered as the opcode table numbers them; a command is
one 32-bit word with bit 0 least significant, so that numbering is the word's own (R60, R69). -/
def decodeTableWord (nbits w : Nat) : Option Instr :=
  match decode (BitVec.ofNat 32 (w % 2 ^ nbits)) with
  | .ok i => some i
  | .error _ => none

/-! ## Encoding (R61, R62, R70) -/

/-- The row of the opcode map an instruction belongs to. -/
def Instr.opcode : Instr → Opcode
  | .expandKey _ => .expandKey
  | .encrypt _ => .encrypt
  | .decrypt _ => .decrypt
  | .avalanche _ _ _ => .avalanche
  | .sbox _ => .sbox
  | .invSbox _ => .invSbox
  | .gfMul _ _ => .gfMul
  | .hamming => .hamming
  | .flipBit _ => .flipBit
  | .subBytes => .subBytes
  | .shiftRows => .shiftRows
  | .mixColumns => .mixColumns
  | .addRoundKey _ => .addRoundKey
  | .invSubBytes => .invSubBytes
  | .invShiftRows => .invShiftRows
  | .invMixColumns => .invMixColumns
  | .wrb _ _ => .wrb
  | .rdb _ => .rdb
  | .copy _ _ => .copy

/-- The command word of an instruction (R61, R70). -/
def encode : Instr → Word
  | .expandKey len => packWord Opcode.expandKey.byte 0 0 len
  | .encrypt len => packWord Opcode.encrypt.byte 0 0 len
  | .decrypt len => packWord Opcode.decrypt.byte 0 0 len
  | .avalanche pos target len => packWord Opcode.avalanche.byte pos target.code len
  | .sbox b => packWord Opcode.sbox.byte b 0 0
  | .invSbox b => packWord Opcode.invSbox.byte b 0 0
  | .gfMul c b => packWord Opcode.gfMul.byte b c 0
  | .hamming => packWord Opcode.hamming.byte 0 0 0
  | .flipBit pos => packWord Opcode.flipBit.byte pos 0 0
  | .subBytes => packWord Opcode.subBytes.byte 0 0 0
  | .shiftRows => packWord Opcode.shiftRows.byte 0 0 0
  | .mixColumns => packWord Opcode.mixColumns.byte 0 0 0
  | .addRoundKey r => packWord Opcode.addRoundKey.byte r 0 0
  | .invSubBytes => packWord Opcode.invSubBytes.byte 0 0 0
  | .invShiftRows => packWord Opcode.invShiftRows.byte 0 0 0
  | .invMixColumns => packWord Opcode.invMixColumns.byte 0 0 0
  | .wrb addr data => packAddrWord Opcode.wrb.byte data addr
  | .rdb addr => packAddrWord Opcode.rdb.byte 0 addr
  | .copy dst src => packWord Opcode.copy.byte dst.code src.code 0

/-! ## The mask and match test of the opcode table (R63) -/

def Opcode.mask : Opcode → Word
  | .expandKey => 0x00FFFFFF
  | .encrypt => 0x00FFFFFF
  | .decrypt => 0x00FFFFFF
  | .avalanche => 0x00FE00FF
  | .sbox => 0xFFFF00FF
  | .invSbox => 0xFFFF00FF
  | .gfMul => 0xFF0000FF
  | .hamming => 0xFFFFFFFF
  | .flipBit => 0xFFFF00FF
  | .subBytes => 0xFFFFFFFF
  | .shiftRows => 0xFFFFFFFF
  | .mixColumns => 0xFFFFFFFF
  | .addRoundKey => 0xFFFF00FF
  | .invSubBytes => 0xFFFFFFFF
  | .invShiftRows => 0xFFFFFFFF
  | .invMixColumns => 0xFFFFFFFF
  | .wrb => 0x000000FF
  | .rdb => 0x0000FFFF
  | .copy => 0xFFFCFCFF

/-- The column match of R63. -/
def Opcode.pattern : Opcode → Word
  | .expandKey => 0x00000001
  | .encrypt => 0x00000002
  | .decrypt => 0x00000003
  | .avalanche => 0x00000004
  | .sbox => 0x00000010
  | .invSbox => 0x00000011
  | .gfMul => 0x00000012
  | .hamming => 0x00000013
  | .flipBit => 0x00000014
  | .subBytes => 0x00000020
  | .shiftRows => 0x00000021
  | .mixColumns => 0x00000022
  | .addRoundKey => 0x00000023
  | .invSubBytes => 0x00000028
  | .invShiftRows => 0x00000029
  | .invMixColumns => 0x0000002A
  | .wrb => 0x00000030
  | .rdb => 0x00000031
  | .copy => 0x00000032

/-- The column extra constraint of R63: ADDROUNDKEY wants A <= 10, COPY wants A not 3, the others nothing. -/
def Opcode.extra (o : Opcode) (w : Word) : Bool :=
  match o with
  | .addRoundKey => decide ((fieldA w).toNat ≤ 10)
  | .copy => fieldA w != 3
  | _ => true

/-- A word selects a row when (w and mask) = match and the row's extra constraint holds (R63). -/
def Opcode.selects (o : Opcode) (w : Word) : Bool := (w &&& o.mask) == o.pattern && o.extra w

end Sys2Proof
end

