-- ==== Sys2Proof/Machine/Field.lean ====
section
/-! DEFINITION. The functions of the Galois-field unit (40_gf_arithmetic.md R80 to R86, R91, R92). -/

namespace Sys2Proof.Machine

/-- Doubling in GF(2^8) (R81). -/
def xtime (b : Byte) : Byte := if b.getLsbD 7 then (b <<< 1) ^^^ 0x1B else b <<< 1

/-- The last `n` of the eight turns of R82's loop, on the bits `8 - n` to 7 of `c`. -/
def gmulLoop (c : Byte) : Nat → Byte → Byte → Byte
  | 0, r, _ => r
  | n + 1, r, t => gmulLoop c n (if c.getLsbD (7 - n) then r ^^^ t else r) (xtime t)

/-- The general multiplier (R82). -/
def gmul (c b : Byte) : Byte := gmulLoop c 8 0x00 b

/-- `substitute` (R85). -/
def sbox (b : Byte) : Byte := romEntry sboxRows b

/-- `inverseSubstitute` (R86). -/
def invSbox (b : Byte) : Byte := romEntry invSboxRows b

/-- The six tables of `mulBy` (R84, R91, R92). -/
def mul2 (b : Byte) : Byte := romEntry mul2Rows b
def mul3 (b : Byte) : Byte := romEntry mul3Rows b
def mul9 (b : Byte) : Byte := romEntry mul9Rows b
def mul11 (b : Byte) : Byte := romEntry mul11Rows b
def mul13 (b : Byte) : Byte := romEntry mul13Rows b
def mul14 (b : Byte) : Byte := romEntry mul14Rows b

end Sys2Proof.Machine
end

