-- ==== Sys2Proof/Machine/KeySchedule.lean ====
section
/-! DEFINITION. The functions of the key expansion engine (41_key_schedule.md R100 to R105). -/

namespace Sys2Proof.Machine

/-- R101: the bytes move one place toward index 0 and the first goes to the end. -/
def rotWord (t : Column) : Column := ⟨t.b1, t.b2, t.b3, t.b0⟩

/-- R102. -/
def subWord (t : Column) : Column := ⟨sbox t.b0, sbox t.b1, sbox t.b2, sbox t.b3⟩

/-- Rcon[1..10] (R103); Rcon[0] does not exist and no rule reads it. -/
def rcon (i : Nat) : Byte :=
  [0x01, 0x02, 0x04, 0x08, 0x10, 0x20, 0x40, 0x80, 0x1B, 0x36].getD (i - 1) 0

def xorColumn (a b : Column) : Column := ⟨a.b0 ^^^ b.b0, a.b1 ^^^ b.b1, a.b2 ^^^ b.b2, a.b3 ^^^ b.b3⟩

/-- R103, R104: rotated, substituted, and the round constant xored into byte 0. -/
def specialWord (i : Nat) (t : Column) : Column :=
  xorColumn (subWord (rotWord t)) ⟨rcon i, 0, 0, 0⟩

/-- Word `j` from the word four places back and the word one place back (the body of R104's loop). -/
def nextWord (j : Nat) (back4 prev : Column) : Column :=
  xorColumn back4 (if j % 4 = 0 then specialWord (j / 4) prev else prev)

/-- Words `j`, `j + 1`, ... (as many as asked) from the four words before word `j` (R104's loop). -/
def wordsFrom : Nat → Nat → Column → Column → Column → Column → List Column
  | 0, _, _, _, _, _ => []
  | n + 1, j, a, b, c, d => nextWord j a d :: wordsFrom n (j + 1) b c d (nextWord j a d)

/-- Four bytes of a block as word or column `c` (R44, R45). -/
def columnOf (x : Block) (c : Fin 4) : Column :=
  ⟨x[4 * c.val], x[4 * c.val + 1], x[4 * c.val + 2], x[4 * c.val + 3]⟩

/-- Byte `i` of a word, `i` in 0..3. -/
def Column.byte (t : Column) (i : Nat) : Byte :=
  if i = 0 then t.b0 else if i = 1 then t.b1 else if i = 2 then t.b2 else t.b3

/-- The 44 words of the schedule (R45, R104): the key's four, then words 4 to 43. -/
def scheduleWords (k : Block) : List Column :=
  columnOf k 0 :: columnOf k 1 :: columnOf k 2 :: columnOf k 3 ::
    wordsFrom 40 4 (columnOf k 0) (columnOf k 1) (columnOf k 2) (columnOf k 3)

/-- `expandKey(K)` (R104): byte `b` of word `j` is W[4j + b]. -/
def expandKey (k : Block) : ExpandedKey :=
  Vector.ofFn fun i => Column.byte ((scheduleWords k).getD (i.val / 4) ⟨0, 0, 0, 0⟩) (i.val % 4)

/-- Round key `i`, the 16 bytes W[16i .. 16i + 15], for i in 0..10 (R26, R105). -/
def roundKey (w : ExpandedKey) (i : Nat) : Block :=
  Vector.ofFn fun j => w[16 * i + j.val]?.getD 0

end Sys2Proof.Machine
end

