-- ==== Sys2Proof/Machine/ForwardRound.lean ====
section
/-! DEFINITION. The functions of the forward round pipeline (42_forward_round.md R110 to R115). -/

namespace Sys2Proof.Machine

/-- R110. -/
def subBytes (s : Block) : Block := Vector.ofFn fun i => sbox s[i]

/-- R111: the new element at row r, column c is the old one at row r, column (c + r) mod 4. -/
def shiftRows (s : Block) : Block :=
  Vector.ofFn fun i => s[4 * ((i.val / 4 + i.val % 4) % 4) + i.val % 4]

/-- One column of R112: the matrix M times the column. -/
def mixColumn (a : Column) : Column :=
  ⟨mul2 a.b0 ^^^ mul3 a.b1 ^^^ a.b2 ^^^ a.b3,
   a.b0 ^^^ mul2 a.b1 ^^^ mul3 a.b2 ^^^ a.b3,
   a.b0 ^^^ a.b1 ^^^ mul2 a.b2 ^^^ mul3 a.b3,
   mul3 a.b0 ^^^ a.b1 ^^^ a.b2 ^^^ mul2 a.b3⟩

/-- A column function applied to each of the four columns of a State (R44). -/
def onColumns (f : Column → Column) (s : Block) : Block :=
  Vector.ofFn fun i => Column.byte (f (columnOf s ⟨i.val / 4, by omega⟩)) (i.val % 4)

/-- R112. -/
def mixColumns (s : Block) : Block := onColumns mixColumn s

/-- R113. -/
def addRoundKey (s k : Block) : Block := Vector.ofFn fun i => s[i] ^^^ k[i]

/-- A full round: SubBytes, ShiftRows, MixColumns, AddRoundKey (R114). -/
def fullRound (s k : Block) : Block := addRoundKey (mixColumns (shiftRows (subBytes s))) k

/-- The final round, without MixColumns (R114). -/
def finalRound (s k : Block) : Block := addRoundKey (shiftRows (subBytes s)) k

/-- The checkpoint T[i] of `encryptTrace(P, W)`, for i in 0..10 (R114): the state when RND is i (R115). -/
def checkpoint (p : Block) (w : ExpandedKey) : Nat → Block
  | 0 => addRoundKey p (roundKey w 0)
  | i + 1 =>
    if i + 1 < 10 then fullRound (checkpoint p w i) (roundKey w (i + 1))
    else finalRound (checkpoint p w i) (roundKey w (i + 1))

/-- `encryptTrace(P, W)`, the eleven checkpoints (R114). -/
def encryptTrace (p : Block) (w : ExpandedKey) : Vector Block 11 := Vector.ofFn fun i => checkpoint p w i.val

/-- `encryptBlock(P, W)` = T[10] (R114). -/
def encryptBlock (p : Block) (w : ExpandedKey) : Block := (encryptTrace p w)[10]

end Sys2Proof.Machine
end

