-- ==== Sys2Proof/Machine/InverseRound.lean ====
section
/-! DEFINITION. The functions of the inverse round pipeline (43_inverse_round.md R130 to R133). -/

namespace Sys2Proof.Machine

/-- R130. -/
def invSubBytes (s : Block) : Block := Vector.ofFn fun i => invSbox s[i]

/-- R131: the new element at row r, column c is the old one at row r, column (c - r) mod 4. -/
def invShiftRows (s : Block) : Block :=
  Vector.ofFn fun i => s[4 * ((i.val / 4 + 4 - i.val % 4) % 4) + i.val % 4]

/-- One column of R132: the matrix N times the column. -/
def invMixColumn (a : Column) : Column :=
  ⟨mul14 a.b0 ^^^ mul11 a.b1 ^^^ mul13 a.b2 ^^^ mul9 a.b3,
   mul9 a.b0 ^^^ mul14 a.b1 ^^^ mul11 a.b2 ^^^ mul13 a.b3,
   mul13 a.b0 ^^^ mul9 a.b1 ^^^ mul14 a.b2 ^^^ mul11 a.b3,
   mul11 a.b0 ^^^ mul13 a.b1 ^^^ mul9 a.b2 ^^^ mul14 a.b3⟩

/-- R132. -/
def invMixColumns (s : Block) : Block := onColumns invMixColumn s

/-- The steps of R133 from round `i` down to the final AddRoundKey (RND = i, ..., 0). -/
def decryptFrom (w : ExpandedKey) : Nat → Block → Block
  | 0, s => addRoundKey s (roundKey w 0)
  | i + 1, s =>
    decryptFrom w i (invSubBytes (invShiftRows (invMixColumns (addRoundKey s (roundKey w (i + 1))))))

/-- `decryptBlock(C, W)` (R133): the initial step with round key 10, then rounds 9 to 1 and the final step. -/
def decryptBlock (c : Block) (w : ExpandedKey) : Block :=
  decryptFrom w 9 (invSubBytes (invShiftRows (addRoundKey c (roundKey w 10))))

end Sys2Proof.Machine
end

