-- ==== Sys2Proof/Config.lean ====
section
/-! DEFINITION. The one open parameter of the spec that a state of one core can show: RESET_FILL
(00_scope.md R6, 70_reset_and_hazards.md R200, decision D25). N_INST and LATENCY are read by no rule
(R206, D28) and have no counterpart here; see notes/assumptions/3.md and 4.md. -/

namespace Sys2Proof

/-- FREE VALUE (R6, R34, R200, U1): `Config.resetFill n a` is the byte that the n-th reset leaves at
buffer-space address `a`. It has no body, so nothing can be proved about its value: not that it is zero, not that
it is what the buffer held before, not that two resets give the same byte. Log entry 1. -/
opaque Config.resetFill : Nat → Nat → Byte

end Sys2Proof
end

