-- ==== Sys2Proof/Machine/State.lean ====
section
/-! DEFINITION. The state of the AES-128 core (10_state.md R20 to R34), the events the host puts on its port
(30_encoding.md R73, 70_reset_and_hazards.md R200, R201), the responses it gives (R68), its five errors (R180), the
stops of a step, and the state after reset. -/

namespace Sys2Proof.Machine

/-- The five errors of R180; code 0, success, is no error. -/
inductive CmdError where
  | invalidKeyLength
  | invalidBlockLength
  | invalidBitPosition
  | illegalCommand
  | badAccess
  deriving DecidableEq, Repr

/-- The 11-bit response to one command: `err[2:0]` and `data[7:0]` (R68). -/
structure Response where
  err  : BitVec 3
  data : Byte
  deriving DecidableEq, Repr

/-- One entry of the avalanche record: (round number, changed-bit count), one byte each (R28, R46). -/
structure AvrEntry where
  round : Byte
  count : Byte
  deriving DecidableEq, Repr

/-- What the host can do to the core, one event at a time (R73, R200, R201, U10). -/
inductive HostEvent where
  /-- A command word is accepted on the port and runs to its response (R73). -/
  | command (w : Word)
  /-- `rst` is asserted and released while no command runs (R200). -/
  | reset
  /-- A command word is accepted and `rst` is asserted before its response (R201). -/
  | resetDuring (w : Word)
  /-- The port is driven against the handshake: `cmd_word` changed while it waits, or `rst` shorter than a clock
  (U10, treatment `refuse`). -/
  | handshakeViolation
  deriving DecidableEq, Repr

/-- The byte or half entry that a mapped buffer-space address names (R41, R46). -/
inductive Location where
  | keyin (i : Fin 16)
  | din (i : Fin 16)
  | ref (i : Fin 16)
  | dout (i : Fin 16)
  | avrRound (i : Fin 11)
  | avrCount (i : Fin 11)
  | res
  | status
  | rk (i : Fin 176)
  deriving DecidableEq, Repr

/-- The reasons a machine stops with a fault: NONE. Every error of this hardware is a response to one command after
which the core is ready for the next (R184, R186), and the core never halts or locks up (R186, R205), so the type has
no constructor and no step can fault. -/
inductive Fault where
  deriving DecidableEq, Repr

/-- The reasons a step gives no meaning. -/
inductive Refusal where
  /-- Raised by an arm of `exec` whose instruction has no meaning in the model; no arm does. Safe. -/
  | notModelled (mnemonic : String)
  /-- Raised by `serve` (Machine/Port.lean) on a port driven against the handshake, to which the spec says to give no
  meaning (U10, treatment `refuse`). Safe. -/
  | handshakeViolated
  deriving DecidableEq, Repr

/-- The state. The eight fields `keyin` to `status` are the spec's (R20); S, SP, RKP and RND are values local to one
command and no fields (R27, R30, R31, U2); the ROM tables are constants (R32, Machine/Rom.lean). The last three fields
are the model's own: the host's side of the command port and the counter of the free values. -/
structure State where
  /-- KEYIN[0..15], the caller-supplied key (R21). -/
  keyin  : Block
  /-- DIN[0..15], the input block (R22). -/
  din    : Block
  /-- REF[0..15], the second operand of the comparator (R23). -/
  ref    : Block
  /-- DOUT[0..15], the result block (R24). -/
  dout   : Block
  /-- RES, the byte result (R25). -/
  res    : Byte
  /-- RK[0..175], the expanded key (R26). -/
  rk     : ExpandedKey
  /-- AVR[0..10], the avalanche record (R28). -/
  avr    : Vector AvrEntry 11
  /-- STATUS, the sticky error bits (R29). -/
  status : Byte
  /-- The events waiting at the port, the next one first (R73, R207): the model's own. -/
  pending : List HostEvent
  /-- The responses given since the last reset, oldest first (R68, R207): the model's own. -/
  responses : List Response
  /-- How many resets came before the last one: the counter that the free reset bytes are drawn with (R200): the
  model's own. -/
  resets : Nat
  deriving DecidableEq, Repr

/-- The state that reset number `n` leaves, with `waiting` still to come at the port (R34, R200): STATUS is 0x00, no
response is pending, and every byte of a data buffer is the unspecified byte of its buffer-space address. -/
def State.atReset (n : Nat) (waiting : List HostEvent) : State where
  keyin := Vector.ofFn fun i => Config.resetFill n (0x0000 + i.val)
  din := Vector.ofFn fun i => Config.resetFill n (0x0010 + i.val)
  ref := Vector.ofFn fun i => Config.resetFill n (0x0020 + i.val)
  dout := Vector.ofFn fun i => Config.resetFill n (0x0030 + i.val)
  res := Config.resetFill n 0x0060
  rk := Vector.ofFn fun i => Config.resetFill n (0x0100 + i.val)
  avr := Vector.ofFn fun i =>
    ⟨Config.resetFill n (0x0040 + 2 * i.val), Config.resetFill n (0x0041 + 2 * i.val)⟩
  status := 0x00
  pending := waiting
  responses := []
  resets := n

/-- The machine right after reset, with nothing waiting at the port (R34, R200). -/
def State.reset : State := State.atReset 0 []

/-! ## Updates, one per field -/

def State.setKeyin (s : State) (x : Block) : State := { s with keyin := x }
def State.setDin (s : State) (x : Block) : State := { s with din := x }
def State.setRef (s : State) (x : Block) : State := { s with ref := x }
def State.setDout (s : State) (x : Block) : State := { s with dout := x }
def State.setRes (s : State) (b : Byte) : State := { s with res := b }
def State.setRk (s : State) (w : ExpandedKey) : State := { s with rk := w }
def State.setAvr (s : State) (v : Vector AvrEntry 11) : State := { s with avr := v }
def State.setStatus (s : State) (b : Byte) : State := { s with status := b }
def State.setPending (s : State) (l : List HostEvent) : State := { s with pending := l }

/-- The response is presented: it joins those given since the last reset (R68, R207). -/
def State.respond (s : State) (r : Response) : State := { s with responses := s.responses ++ [r] }

end Sys2Proof.Machine
end

