-- ==== Sys2Proof/Machine/Avalanche.lean ====
section
/-! DEFINITION. The functions of the avalanche harness and its comparator (44_avalanche.md R150 to R154). -/

namespace Sys2Proof.Machine

/-- R150, for a position in 0..127: bit (p mod 8) of byte (p div 8) is inverted. -/
def flipBit (x : Block) (p : Nat) : Block :=
  Vector.ofFn fun i => if i.val = p / 8 then x[i] ^^^ (1#8 <<< (p % 8)) else x[i]

/-- R151: the number of ones in a byte. -/
def popcount8 (b : Byte) : Nat :=
  (b.getLsbD 0).toNat + (b.getLsbD 1).toNat + (b.getLsbD 2).toNat + (b.getLsbD 3).toNat
    + (b.getLsbD 4).toNat + (b.getLsbD 5).toNat + (b.getLsbD 6).toNat + (b.getLsbD 7).toNat

/-- R152: the Hamming distance, 0 to 128. -/
def countChangedBits (x y : Block) : Nat :=
  ((List.finRange 16).map fun i => popcount8 (x[i] ^^^ y[i])).sum

/-- The perturbed run of R153: the flipped bit is in the block, or in round key 0 with the schedule expanded afresh. -/
def perturbedCheckpoint (p : Block) (w : ExpandedKey) (pos : Nat) (target : Target) (i : Nat) : Block :=
  match target with
  | .plaintext => checkpoint (flipBit p pos) w i
  | .key => checkpoint p (expandKey (flipBit (roundKey w 0) pos)) i

/-- `avalancheRecord(P, W, p, target)`, the eleven counts n[0..10] (R153). -/
def avalancheRecord (p : Block) (w : ExpandedKey) (pos : Nat) (target : Target) : Vector Nat 11 :=
  Vector.ofFn fun i => countChangedBits (checkpoint p w i.val) (perturbedCheckpoint p w pos target i.val)

/-- The record as AVR holds it: pair i is (i, n[i]) (R28, R154). -/
def avrOf (n : Vector Nat 11) : Vector AvrEntry 11 :=
  Vector.ofFn fun i => ⟨BitVec.ofNat 8 i.val, BitVec.ofNat 8 n[i]⟩

end Sys2Proof.Machine
end

