-- ==== Sys2Proof/Machine/Flags.lean ====
section
/-! DEFINITION. The error codes and the sticky bits of STATUS (10_state.md R29, 60_exceptions.md R180, R184, R185). -/

namespace Sys2Proof.Machine

/-- The value of `err[2:0]` for an error (R180). -/
def CmdError.code : CmdError → BitVec 3
  | .invalidKeyLength => 1
  | .invalidBlockLength => 2
  | .invalidBitPosition => 3
  | .illegalCommand => 4
  | .badAccess => 5

/-- The number of an error's STATUS bit: KLEN 0, BLEN 1, BPOS 2, ILL 3, ACC 4 (R29, R180). -/
def CmdError.bit : CmdError → Nat
  | .invalidKeyLength => 0
  | .invalidBlockLength => 1
  | .invalidBitPosition => 2
  | .illegalCommand => 3
  | .badAccess => 4

/-- Whether a STATUS byte shows an error (R29). -/
def statusShows (status : Byte) (e : CmdError) : Bool := status.getLsbD e.bit

/-- The reserved bits 7:5 of a STATUS byte (R29). -/
def statusReserved (status : Byte) : BitVec 3 := status.extractLsb' 5 3

/-- A STATUS byte with an error's sticky bit set and the others kept (R184, R185). -/
def setSticky (status : Byte) (e : CmdError) : Byte := status ||| (1#8 <<< e.bit)

/-- The response to a command that succeeds: code 0 with its data byte (R68). -/
def okResponse (data : Byte) : Response := ⟨0, data⟩

/-- The response to a command that raises an error: its code, and data 0x00 (R68, R184). -/
def errorResponse (e : CmdError) : Response := ⟨e.code, 0x00⟩

end Sys2Proof.Machine
end

