-- ==== Sys2Proof/Machine/Ops.lean ====
section
/-! DEFINITION. The operations every command is built from: raising an error and completing (00_scope.md R8,
60_exceptions.md R184), the address map and the byte accesses MemRead and MemWrite (20_memory.md R41, R46 to R48), and
the reset transition (70_reset_and_hazards.md R200). -/

namespace Sys2Proof.Machine

/-- What a command answers: a next state, a fault or a refusal. -/
abbrev Result := Host.Outcome State Fault Refusal

/-- `raise E`: the sticky bit of E is set, the response carries E's code and data 0x00, and nothing else changes; the
core is ready for the next command (R184, R186). -/
def raise (e : CmdError) (s : State) : Result :=
  .next ((s.setStatus (setSticky s.status e)).respond (errorResponse e))

/-- `respond(0, data)`: the command has succeeded (R8, R68). -/
def completeWith (data : Byte) (s : State) : Result := .next (s.respond (okResponse data))

/-- `respond(0, 0x00)`, the end of every command but RDB (R8, R68). -/
def complete (s : State) : Result := completeWith 0x00 s

/-- The address map of R41 with the AVR layout of R46; none where the map says unmapped. -/
def locate (a : Addr) : Option Location :=
  if h : a.toNat < 0x0010 then some (.keyin ⟨a.toNat, by omega⟩)
  else if h : a.toNat < 0x0020 then some (.din ⟨a.toNat - 0x0010, by omega⟩)
  else if h : a.toNat < 0x0030 then some (.ref ⟨a.toNat - 0x0020, by omega⟩)
  else if h : a.toNat < 0x0040 then some (.dout ⟨a.toNat - 0x0030, by omega⟩)
  else if h : a.toNat < 0x0056 then
    if a.toNat % 2 = 0 then some (.avrRound ⟨(a.toNat - 0x0040) / 2, by omega⟩)
    else some (.avrCount ⟨(a.toNat - 0x0040) / 2, by omega⟩)
  else if a.toNat = 0x0060 then some .res
  else if a.toNat = 0x0061 then some .status
  else if h : 0x0100 ≤ a.toNat ∧ a.toNat < 0x01B0 then some (.rk ⟨a.toNat - 0x0100, by omega⟩)
  else none

/-- The buffer-space address of a mapped byte (R41, R46). -/
def Location.address : Location → Addr
  | .keyin i => BitVec.ofNat 16 (0x0000 + i.val)
  | .din i => BitVec.ofNat 16 (0x0010 + i.val)
  | .ref i => BitVec.ofNat 16 (0x0020 + i.val)
  | .dout i => BitVec.ofNat 16 (0x0030 + i.val)
  | .avrRound i => BitVec.ofNat 16 (0x0040 + 2 * i.val)
  | .avrCount i => BitVec.ofNat 16 (0x0041 + 2 * i.val)
  | .res => 0x0060
  | .status => 0x0061
  | .rk i => BitVec.ofNat 16 (0x0100 + i.val)

/-- The byte held at a mapped address (R41). -/
def readAt (l : Location) (s : State) : Byte :=
  match l with
  | .keyin i => s.keyin[i]
  | .din i => s.din[i]
  | .ref i => s.ref[i]
  | .dout i => s.dout[i]
  | .avrRound i => s.avr[i].round
  | .avrCount i => s.avr[i].count
  | .res => s.res
  | .status => s.status
  | .rk i => s.rk[i]

/-- A byte written at a mapped address, or none where the map says the host may not write (R41, R48). -/
def writeAt (l : Location) (v : Byte) (s : State) : Option State :=
  match l with
  | .keyin i => some (s.setKeyin (s.keyin.set i v))
  | .din i => some (s.setDin (s.din.set i v))
  | .ref i => some (s.setRef (s.ref.set i v))
  | .dout _ => none
  | .avrRound _ => none
  | .avrCount _ => none
  | .res => none
  | .status => none
  | .rk i => some (s.setRk (s.rk.set i v))

/-- `MemRead(addr, 1)`: the byte there, or none for BadAccess (R47). -/
def memRead (a : Addr) (s : State) : Option Byte := (locate a).map fun l => readAt l s

/-- `MemWrite(addr, 1, v)`: the state with that byte written, or none for BadAccess (R48). -/
def memWrite (a : Addr) (v : Byte) (s : State) : Option State := (locate a).bind fun l => writeAt l v s

/-- The reset transition: the state that the next reset leaves, with the events still to come kept by the host (R200,
R207). Nothing of the state before it survives but the reset counter. -/
def resetCore (s : State) : State := State.atReset (s.resets + 1) s.pending

end Sys2Proof.Machine
end

