-- ==== Sys2Proof/Machine/Operands.lean ====
section
/-! DEFINITION. The operand forms of the commands (30_encoding.md R62, R67): the declared length, the bit position and
the buffers COPY names. The round index of ADDROUNDKEY and the address of WRB and RDB need no form of their own. -/

namespace Sys2Proof.Machine

/-- LEN declares a 16-byte key or block (R106, R120, R137, R157). -/
def lengthIs16 (len : Byte) : Bool := len == 16

/-- POS is a bit position in 0..127 (R150, R155, R157). -/
def positionInRange (pos : Byte) : Bool := decide (pos.toNat ≤ 127)

/-- r is a round-key index, 0 to 10 (R67, R119). -/
def roundIndexInRange (r : Byte) : Bool := decide (r.toNat ≤ 10)

/-- `buffer(B)[0..15]`, all 16 bytes read (R172). -/
def readBuffer (b : Buf) (s : State) : Block :=
  match b with
  | .keyin => s.keyin
  | .din => s.din
  | .ref => s.ref
  | .dout => s.dout

/-- `buffer(A)[0..15] <- X`, all 16 bytes written; none for DOUT, which is no destination (R67, R172). -/
def writeBuffer (b : Buf) (x : Block) (s : State) : Option State :=
  match b with
  | .keyin => some (s.setKeyin x)
  | .din => some (s.setDin x)
  | .ref => some (s.setRef x)
  | .dout => none

end Sys2Proof.Machine
end

