-- ==== Sys2Proof/Machine/BlockCommands.lean ====
section
/-! DEFINITION. The four block commands EXPANDKEY, ENCRYPT, DECRYPT and AVALANCHE (41_key_schedule.md R106,
42_forward_round.md R120, 43_inverse_round.md R137, 44_avalanche.md R157). -/

namespace Sys2Proof.Machine

/-- EXPANDKEY [len] (R106). -/
def execExpandKey (len : Byte) (s : State) : Result :=
  if lengthIs16 len then complete (s.setRk (expandKey s.keyin)) else raise .invalidKeyLength s

/-- ENCRYPT [len] (R120). -/
def execEncrypt (len : Byte) (s : State) : Result :=
  if lengthIs16 len then complete (s.setDout (encryptBlock s.din s.rk)) else raise .invalidBlockLength s

/-- DECRYPT [len] (R137). -/
def execDecrypt (len : Byte) (s : State) : Result :=
  if lengthIs16 len then complete (s.setDout (decryptBlock s.din s.rk)) else raise .invalidBlockLength s

/-- AVALANCHE pos, target [, len] (R157): the length is checked before the position (R182). -/
def execAvalanche (pos : Byte) (target : Target) (len : Byte) (s : State) : Result :=
  if lengthIs16 len then
    if positionInRange pos then
      complete (s.setAvr (avrOf (avalancheRecord s.din s.rk pos.toNat target)))
    else raise .invalidBitPosition s
  else raise .invalidBlockLength s

end Sys2Proof.Machine
end

