-- ==== Sys2Proof/Machine/DataMovement.lean ====
section
/-! DEFINITION. The data movement commands WRB, RDB and COPY (45_data_movement.md R170 to R172). -/

namespace Sys2Proof.Machine

/-- WRB addr, byte (R170). -/
def execWrb (addr : Addr) (data : Byte) (s : State) : Result :=
  match memWrite addr data s with
  | some t => complete t
  | none => raise .badAccess s

/-- RDB addr (R171). -/
def execRdb (addr : Addr) (s : State) : Result :=
  match memRead addr s with
  | some v => completeWith v s
  | none => raise .badAccess s

/-- COPY dst, src (R172): all 16 bytes are read before any is written; DOUT as destination is IllegalCommand (R67; log
entry 5). -/
def execCopy (dst src : Buf) (s : State) : Result :=
  match writeBuffer dst (readBuffer src s) s with
  | some t => complete t
  | none => raise .illegalCommand s

end Sys2Proof.Machine
end

