-- ==== Sys2Proof/Machine/TransformCommands.lean ====
section
/-! DEFINITION. The seven single-transform commands, each from DIN to DOUT (42_forward_round.md R116 to R119,
43_inverse_round.md R134 to R136). -/

namespace Sys2Proof.Machine

/-- The shape of the seven: S is loaded from DIN, transformed and stored to DOUT (R30). -/
def transformDin (f : Block → Block) (s : State) : Result := complete (s.setDout (f s.din))

/-- SUBBYTES (R116). -/
def execSubBytes (s : State) : Result := transformDin subBytes s

/-- SHIFTROWS (R117). -/
def execShiftRows (s : State) : Result := transformDin shiftRows s

/-- MIXCOLUMNS (R118). -/
def execMixColumns (s : State) : Result := transformDin mixColumns s

/-- ADDROUNDKEY r (R119); an index above 10 is IllegalCommand (R67; log entry 5). -/
def execAddRoundKey (r : Byte) (s : State) : Result :=
  if roundIndexInRange r then transformDin (fun x => addRoundKey x (roundKey s.rk r.toNat)) s
  else raise .illegalCommand s

/-- INVSUBBYTES (R134). -/
def execInvSubBytes (s : State) : Result := transformDin invSubBytes s

/-- INVSHIFTROWS (R135). -/
def execInvShiftRows (s : State) : Result := transformDin invShiftRows s

/-- INVMIXCOLUMNS (R136). -/
def execInvMixColumns (s : State) : Result := transformDin invMixColumns s

end Sys2Proof.Machine
end

