-- ==== Sys2Proof/Machine/UnitCommands.lean ====
section
/-! DEFINITION. The unit-access commands SBOX, INVSBOX, GFMUL, HAMMING and FLIPBIT (40_gf_arithmetic.md R88 to R90,
44_avalanche.md R155, R156). -/

namespace Sys2Proof.Machine

/-- SBOX b (R88). -/
def execSbox (b : Byte) (s : State) : Result := complete (s.setRes (sbox b))

/-- INVSBOX b (R89). -/
def execInvSbox (b : Byte) (s : State) : Result := complete (s.setRes (invSbox b))

/-- GFMUL c, b (R90). -/
def execGfMul (c b : Byte) (s : State) : Result := complete (s.setRes (gmul c b))

/-- HAMMING (R156): the count 0..128 as one byte. -/
def execHamming (s : State) : Result :=
  complete (s.setRes (BitVec.ofNat 8 (countChangedBits s.din s.ref)))

/-- FLIPBIT pos (R155). -/
def execFlipBit (pos : Byte) (s : State) : Result :=
  if positionInRange pos then complete (s.setDout (flipBit s.din pos.toNat)) else raise .invalidBitPosition s

end Sys2Proof.Machine
end

