-- ==== Sys2Proof/Machine/Dispatch.lean ====
section
/-! DEFINITION. One arm per command: each calls its own meaning. -/

namespace Sys2Proof.Machine

def exec (i : Instr) (s : State) : Host.Outcome State Fault Refusal :=
  match i with
  | .expandKey len => Sys2Proof.Machine.execExpandKey len s
  | .encrypt len => Sys2Proof.Machine.execEncrypt len s
  | .decrypt len => Sys2Proof.Machine.execDecrypt len s
  | .avalanche pos target len => Sys2Proof.Machine.execAvalanche pos target len s
  | .sbox b => Sys2Proof.Machine.execSbox b s
  | .invSbox b => Sys2Proof.Machine.execInvSbox b s
  | .gfMul c b => Sys2Proof.Machine.execGfMul c b s
  | .hamming => Sys2Proof.Machine.execHamming s
  | .flipBit pos => Sys2Proof.Machine.execFlipBit pos s
  | .subBytes => Sys2Proof.Machine.execSubBytes s
  | .shiftRows => Sys2Proof.Machine.execShiftRows s
  | .mixColumns => Sys2Proof.Machine.execMixColumns s
  | .addRoundKey r => Sys2Proof.Machine.execAddRoundKey r s
  | .invSubBytes => Sys2Proof.Machine.execInvSubBytes s
  | .invShiftRows => Sys2Proof.Machine.execInvShiftRows s
  | .invMixColumns => Sys2Proof.Machine.execInvMixColumns s
  | .wrb addr data => Sys2Proof.Machine.execWrb addr data s
  | .rdb addr => Sys2Proof.Machine.execRdb addr s
  | .copy dst src => Sys2Proof.Machine.execCopy dst src s

end Sys2Proof.Machine
end

