-- ==== Sys2Proof/Machine/Port.lean ====
section
/-! DEFINITION. The command port: what one event of the host does to the core (30_encoding.md R64, R68, R73,
70_reset_and_hazards.md R200, R201, R205, R207). -/

namespace Sys2Proof.Machine

/-- An accepted command word: decoded first, executed if it is a command, IllegalCommand if it is not (R64, R66,
R182). -/
def executeWord (w : Word) (s : State) : Result :=
  match decode w with
  | .ok i => exec i s
  | .error _ => raise .illegalCommand s

/-- One event of the host, in a state from which it has been taken off the port. -/
def serve (e : HostEvent) (s : State) : Result :=
  match e with
  | .command w => executeWord w s
  | .reset => .next (resetCore s)
  | .resetDuring _ => .next (resetCore s)
  | .handshakeViolation => .refused .handshakeViolated

/-- The next event is taken off the port and served; with none waiting the core is idle and keeps its state (R194,
R205). -/
def serveNext (s : State) : Result :=
  match s.pending with
  | [] => .next s
  | e :: rest => serve e (s.setPending rest)

/-- The word an instruction of `nbits` bits `w` of the opcode table is on the port (R60). -/
def tableWord (nbits w : Nat) : Word := BitVec.ofNat 32 (w % 2 ^ nbits)

/-- A command word put first in line at the port: the host presents it next (R73). -/
def presentWord (w : Word) (s : State) : State := s.setPending (.command w :: s.pending)

end Sys2Proof.Machine
end

