-- ==== Sys2Proof/Machine/Step.lean ====
section
/-! DEFINITION. One step of the machine: the next event at the port, whole (00_scope.md R9). -/

namespace Sys2Proof.Machine

/-- One atomic transition (R9, R50). -/
def step (s : State) : Host.Outcome State Fault Refusal := serveNext s

/-- `s` with a command word waiting at the port as the next event. The core fetches nothing (R27): this is the host
presenting the word (R73; log entry 6). -/
def State.withFetchWord (s : State) (nbits w : Nat) : State := presentWord (tableWord nbits w) s

end Sys2Proof.Machine
end

