-- ==== Sys2Proof/Safety.lean ====
section
/-! DEFINITION. The vocabulary of the claims: the invariant of a run, which error a command raises and which bytes it
writes, as the summary tables of the spec give them (10_state.md R35, 60_exceptions.md R181, R182), command words as the
host presents them, and the command lists of the pseudo-instructions (30_encoding.md R71). -/

namespace Sys2Proof.Machine

/-- The invariant of a run: the reserved bits of STATUS read 0 (R29, U6); a sticky bit is 1 exactly when the matching
error has been raised since the last reset (R29, R184, R185); every response carries a code 0 to 5, and data 0x00 where
its code is not 0 (R68, R180, U6, U7). -/
structure RunInv (s : State) : Prop where
  reserved_zero : statusReserved s.status = 0
  sticky_iff : ∀ e : CmdError, statusShows s.status e = true ↔ ∃ r ∈ s.responses, r.err = e.code
  codes_legal : ∀ r ∈ s.responses, r.err.toNat ≤ 5
  error_data_zero : ∀ r ∈ s.responses, r.err ≠ 0 → r.data = 0x00

/-- The addresses the host may write: KEYIN, DIN, REF and RK (R41). -/
def hostWritable (a : Addr) : Bool :=
  decide (a.toNat < 0x0030) || decide (0x0100 ≤ a.toNat) && decide (a.toNat < 0x01B0)

/-- The addresses the host may read: all that the map of R41 lists. -/
def hostReadable (a : Addr) : Bool :=
  decide (a.toNat < 0x0056) || decide (a.toNat = 0x0060) || decide (a.toNat = 0x0061)
    || decide (0x0100 ≤ a.toNat) && decide (a.toNat < 0x01B0)

/-- The error a command raises, if any, in the order of R182; the table of R181 (for commands that are not well formed,
the IllegalCommand their word raises at decode). -/
def errorOf : Instr → Option CmdError
  | .expandKey len => if len = 16 then none else some .invalidKeyLength
  | .encrypt len => if len = 16 then none else some .invalidBlockLength
  | .decrypt len => if len = 16 then none else some .invalidBlockLength
  | .avalanche pos _ len =>
    if len ≠ 16 then some .invalidBlockLength
    else if 127 < pos.toNat then some .invalidBitPosition else none
  | .sbox _ => none
  | .invSbox _ => none
  | .gfMul _ _ => none
  | .hamming => none
  | .flipBit pos => if 127 < pos.toNat then some .invalidBitPosition else none
  | .subBytes => none
  | .shiftRows => none
  | .mixColumns => none
  | .addRoundKey r => if 10 < r.toNat then some .illegalCommand else none
  | .invSubBytes => none
  | .invShiftRows => none
  | .invMixColumns => none
  | .wrb addr _ => if hostWritable addr then none else some .badAccess
  | .rdb addr => if hostReadable addr then none else some .badAccess
  | .copy dst _ => if dst = .dout then some .illegalCommand else none

/-- The first buffer-space address of a 16-byte buffer (R41). -/
def Buf.base : Buf → Nat
  | .keyin => 0x0000
  | .din => 0x0010
  | .ref => 0x0020
  | .dout => 0x0030

/-- Whether a command that succeeds may write the byte at a buffer-space address: the write sets of R35 with the
addresses of R41. -/
def mayWrite (i : Instr) (a : Addr) : Prop :=
  match i with
  | .expandKey _ => 0x0100 ≤ a.toNat ∧ a.toNat < 0x01B0
  | .encrypt _ => 0x0030 ≤ a.toNat ∧ a.toNat < 0x0040
  | .decrypt _ => 0x0030 ≤ a.toNat ∧ a.toNat < 0x0040
  | .avalanche _ _ _ => 0x0040 ≤ a.toNat ∧ a.toNat < 0x0056
  | .sbox _ => a = 0x0060
  | .invSbox _ => a = 0x0060
  | .gfMul _ _ => a = 0x0060
  | .hamming => a = 0x0060
  | .flipBit _ => 0x0030 ≤ a.toNat ∧ a.toNat < 0x0040
  | .subBytes => 0x0030 ≤ a.toNat ∧ a.toNat < 0x0040
  | .shiftRows => 0x0030 ≤ a.toNat ∧ a.toNat < 0x0040
  | .mixColumns => 0x0030 ≤ a.toNat ∧ a.toNat < 0x0040
  | .addRoundKey _ => 0x0030 ≤ a.toNat ∧ a.toNat < 0x0040
  | .invSubBytes => 0x0030 ≤ a.toNat ∧ a.toNat < 0x0040
  | .invShiftRows => 0x0030 ≤ a.toNat ∧ a.toNat < 0x0040
  | .invMixColumns => 0x0030 ≤ a.toNat ∧ a.toNat < 0x0040
  | .wrb addr _ => a = addr
  | .rdb _ => False
  | .copy dst _ => Buf.base dst ≤ a.toNat ∧ a.toNat < Buf.base dst + 16

/-- A 16-byte value printed as 32 hex digits: the leftmost two are byte 0 (R7, R42). -/
def hexBlock (n : Nat) : Block := Vector.ofFn fun i => BitVec.ofNat 8 (n >>> (8 * (15 - i.val)))

/-- The word, presented next in any state, runs as the instruction. -/
def RunsAs (w : Word) (i : Instr) : Prop := ∀ s : State, step (presentWord w s) = exec i s

/-- The word, presented next in any state, raises IllegalCommand. -/
def IsIllegal (w : Word) : Prop := ∀ s : State, step (presentWord w s) = raise .illegalCommand s

/-- Commands executed one after another, up to the first that does not answer a next state. -/
def execAll : List Instr → State → Result
  | [], s => .next s
  | i :: rest, s =>
    match exec i s with
    | .next t => execAll rest t
    | .fault f => .fault f
    | .refused r => .refused r

/-! ## The pseudo-instructions (R71): lists of real commands, in the order shown -/

/-- LDKEY h: `WRB KEYIN+i, h[i]` for i = 0, ..., 15. -/
def ldkey (h : Block) : List Instr := (List.finRange 16).map fun i => .wrb (BitVec.ofNat 16 (0x0000 + i.val)) h[i]

/-- LDBLK h: the same for DIN. -/
def ldblk (h : Block) : List Instr := (List.finRange 16).map fun i => .wrb (BitVec.ofNat 16 (0x0010 + i.val)) h[i]

/-- LDREF h: the same for REF. -/
def ldref (h : Block) : List Instr := (List.finRange 16).map fun i => .wrb (BitVec.ofNat 16 (0x0020 + i.val)) h[i]

/-- LDRK h: `WRB RK+i, h[i]` for i = 0, ..., 175. -/
def ldrk (h : ExpandedKey) : List Instr :=
  (List.finRange 176).map fun i => .wrb (BitVec.ofNat 16 (0x0100 + i.val)) h[i]

/-- RDBLK: `RDB DOUT+i` for i = 0, ..., 15. -/
def rdblk : List Instr := (List.range 16).map fun i => .rdb (BitVec.ofNat 16 (0x0030 + i))

/-- RDRK: `RDB RK+i` for i = 0, ..., 175. -/
def rdrk : List Instr := (List.range 176).map fun i => .rdb (BitVec.ofNat 16 (0x0100 + i))

/-- RDAVR: `RDB AVR+i` for i = 0, ..., 21. -/
def rdavr : List Instr := (List.range 22).map fun i => .rdb (BitVec.ofNat 16 (0x0040 + i))

/-- RDRES: `RDB RES`. -/
def rdres : Instr := .rdb 0x0060

/-- RDSTATUS: `RDB STATUS`. -/
def rdstatus : Instr := .rdb 0x0061

/-- XFER: `COPY DIN, DOUT`. -/
def xfer : Instr := .copy .din .dout

/-! ## The step-by-step encryption (R121 item iv) -/

/-- The commands of one full round, DIN to DOUT with XFER between (R121 item iv). -/
def roundProgram (i : Nat) : List Instr :=
  [xfer, .subBytes, xfer, .shiftRows, xfer, .mixColumns, xfer, .addRoundKey (BitVec.ofNat 8 i)]

/-- The step-by-step encryption of R121 item iv: ADDROUNDKEY 0, nine full rounds, and the final round. -/
def encryptProgram : List Instr :=
  .addRoundKey 0 ::
    ((List.range 9).flatMap fun i => roundProgram (i + 1)) ++
      [xfer, .subBytes, xfer, .shiftRows, xfer, .addRoundKey 10]

end Sys2Proof.Machine
end

