-- ==== Sys2Proof/Certificates/Slice0/Obligations.lean ====
section
/-! DEFINITION. The statements for the provers, one for each group of rules of the spec. `s` is always any state, not
only one that a run reaches. A statement that speaks of a free reset byte holds for every value of it. -/

open Sys2Proof Sys2Proof.Machine

/-! ## Encoding (30_encoding.md) -/

/-- Decoding the word of a well-formed command gives the command back, for every operand value (R60 to R62, R67, R70). -/
def Obligations.DecodeOfEncodeIsTheInstruction : Prop :=
  ∀ i : Instr, i.WellFormed → decode (encode i) = .ok i

/-- A word that decodes has one meaning only: it is the word of the command it decodes to (R60 to R67). -/
def Obligations.EncodeOfDecodeIsTheWord : Prop :=
  ∀ (w : Word) (i : Instr), decode w = .ok i → i.WellFormed ∧ encode i = w

/-- R63 and R64: decoding accepts a word exactly when a row of the opcode table selects it by mask, match and extra
constraint, as that row's command, and no word selects two rows. -/
def Obligations.DecodeIsTheMaskAndMatchTest : Prop :=
  (∀ (w : Word) (o : Opcode), o.selects w = true ↔ ∃ i, decode w = .ok i ∧ i.opcode = o) ∧
  (∀ (w : Word) (o p : Opcode), o.selects w = true → p.selects w = true → o = p)

/-- R66: the 237 opcodes beside the 19 are illegal, 0x00 and 0xFF among them; an illegal word changes nothing but the ILL
bit (and is answered with code 4 and data 0x00); and every word is a command or illegal. -/
def Obligations.EveryOtherWordIsIllegal : Prop :=
  ((List.range 256).filter fun n => (opcodeOf (BitVec.ofNat 8 n)).isNone).length = 237 ∧
  (∀ w : Word, opcodeOf (fieldOp w) = none → IsIllegal w) ∧
  (∀ w : Word, fieldOp w = 0x00 ∨ fieldOp w = 0xFF → IsIllegal w) ∧
  (∀ w : Word, (∃ i, i.WellFormed ∧ decode w = .ok i ∧ RunsAs w i) ∨ ((∃ e, decode w = .error e) ∧ IsIllegal w)) ∧
  (∀ s : State, raise .illegalCommand s
    = .next ((s.setStatus (s.status ||| 0x08)).respond ⟨4, 0x00⟩))

/-- R67: the restricted operand sets of AVALANCHE, ADDROUNDKEY and COPY, and the operands that are legal encodings
although they raise errors of their own when executed. -/
def Obligations.RestrictedOperandsAreIllegal : Prop :=
  (∀ a b c : Byte, 1 < b.toNat → IsIllegal (packWord 0x04 a b c)) ∧
  (∀ a : Byte, 10 < a.toNat → IsIllegal (packWord 0x23 a 0x00 0x00)) ∧
  (∀ a b : Byte, 2 < a.toNat ∨ 3 < b.toNat → IsIllegal (packWord 0x32 a b 0x00)) ∧
  (∀ a c : Byte, RunsAs (packWord 0x04 a 0x00 c) (.avalanche a .plaintext c) ∧
    RunsAs (packWord 0x04 a 0x01 c) (.avalanche a .key c)) ∧
  (∀ a : Byte, a.toNat ≤ 10 → RunsAs (packWord 0x23 a 0x00 0x00) (.addRoundKey a)) ∧
  (∀ dst src : Buf, dst ≠ .dout → RunsAs (packWord 0x32 dst.code src.code 0x00) (.copy dst src)) ∧
  (∀ a : Byte, RunsAs (packWord 0x14 a 0x00 0x00) (.flipBit a)) ∧
  (∀ c : Byte, RunsAs (packWord 0x01 0x00 0x00 c) (.expandKey c) ∧ RunsAs (packWord 0x02 0x00 0x00 c) (.encrypt c) ∧
    RunsAs (packWord 0x03 0x00 0x00 c) (.decrypt c)) ∧
  (∀ (addr : Addr) (d : Byte), RunsAs (packAddrWord 0x30 d addr) (.wrb addr d) ∧
    RunsAs (packAddrWord 0x31 0x00 addr) (.rdb addr)) ∧
  (∀ a b : Byte, RunsAs (packWord 0x12 a b 0x00) (.gfMul b a) ∧ RunsAs (packWord 0x10 a 0x00 0x00) (.sbox a) ∧
    RunsAs (packWord 0x11 a 0x00 0x00) (.invSbox a))

/-- Sanity: the nineteen example words of R70 decode to the commands they stand for, and a word is assembled from its
fields as R70 says. -/
def Obligations.SpecExampleWordsDecode : Prop :=
  decode 0x10000001 = .ok (.expandKey 16) ∧ decode 0x10000002 = .ok (.encrypt 16) ∧
  decode 0x0F000003 = .ok (.decrypt 15) ∧ decode 0x10010504 = .ok (.avalanche 5 .key 16) ∧
  decode 0x00005310 = .ok (.sbox 0x53) ∧ decode 0x0000ED11 = .ok (.invSbox 0xED) ∧
  decode 0x00135712 = .ok (.gfMul 0x13 0x57) ∧ decode 0x00000013 = .ok .hamming ∧
  decode 0x00007F14 = .ok (.flipBit 127) ∧ decode 0x00000020 = .ok .subBytes ∧
  decode 0x00000021 = .ok .shiftRows ∧ decode 0x00000022 = .ok .mixColumns ∧
  decode 0x00000A23 = .ok (.addRoundKey 10) ∧ decode 0x00000028 = .ok .invSubBytes ∧
  decode 0x00000029 = .ok .invShiftRows ∧ decode 0x0000002A = .ok .invMixColumns ∧
  decode 0x0010AB30 = .ok (.wrb 0x0010 0xAB) ∧ decode 0x00300031 = .ok (.rdb 0x0030) ∧
  decode 0x00030132 = .ok (.copy .din .dout) ∧
  (∀ op a b c : Byte, (packWord op a b c).toNat = op.toNat + a.toNat * 2 ^ 8 + b.toNat * 2 ^ 16 + c.toNat * 2 ^ 24)

/-! ## The port and the step (00_scope.md R9, 30_encoding.md R68, R73, 70_reset_and_hazards.md) -/

/-- A step runs the decoded instruction: when the next event at the port is a command word that decodes to `i`, the step
is `exec i` in the state with that event taken off the port (R9, R64, R73). -/
def Obligations.StepRunsTheDecodedInstruction : Prop :=
  ∀ (s : State) (w : Word) (rest : List HostEvent) (i : Instr),
    s.pending = .command w :: rest → decode w = .ok i → step s = exec i (s.setPending rest)

/-- With nothing at the port the core keeps all its state (R194, R205); a port driven against the handshake is refused by
name (U10). -/
def Obligations.IdleCoreKeepsItsState : Prop :=
  (∀ s : State, s.pending = [] → step s = .next s) ∧
  (∀ (s : State) (rest : List HostEvent), s.pending = .handshakeViolation :: rest →
    step s = .refused .handshakeViolated)

/-- R34: the state after reset. The unspecified bytes are the free values of log entry 1, named by their addresses; the
port holds no event and no response. -/
def Obligations.ResetStateIsAsSpecified : Prop :=
  State.reset.status = 0x00 ∧ State.reset.pending = [] ∧ State.reset.responses = [] ∧
  (∀ l : Location, l ≠ .status → readAt l State.reset = Config.resetFill 0 l.address.toNat) ∧
  (∀ a : Addr, a ≠ 0x0061 → hostReadable a = true → memRead a State.reset = some (Config.resetFill 0 a.toNat))

/-- R200 and R201: a reset, between commands or in the middle of one, clears STATUS, gives no response, leaves free bytes
of its own in every data buffer, and keeps nothing of the state before it but the host's events still to come (log
entries 1 and 2). -/
def Obligations.ResetTransitionForgetsEverything : Prop :=
  ∀ (s : State) (w : Word) (rest : List HostEvent),
    s.pending = .reset :: rest ∨ s.pending = .resetDuring w :: rest →
    ∃ t, step s = .next t ∧ t.status = 0x00 ∧ t.responses = [] ∧ t.pending = rest ∧ t.resets = s.resets + 1 ∧
      ∀ a : Addr, a ≠ 0x0061 → hostReadable a = true →
        memRead a t = some (Config.resetFill (s.resets + 1) a.toNat)

/-- The state after reset meets the invariant of a run. -/
def Obligations.ResetMeetsRunInv : Prop := RunInv State.reset

/-- Every step keeps the invariant of a run: the reserved bits of STATUS read 0, a sticky bit is 1 exactly when its error
has been raised since the last reset, and codes 6 and 7 are never produced (R29, R68, R180, R184, R185, U6). -/
def Obligations.StepKeepsRunInv : Prop :=
  ∀ s t : State, RunInv s → step s = .next t → RunInv t

/-- R185: no command clears a sticky bit; only a reset does; and STATUS = 0x00 says that no error has occurred since the
reset. -/
def Obligations.OnlyResetClearsStickyBits : Prop :=
  (∀ (w : Word) (s t : State) (e : CmdError), step (presentWord w s) = .next t →
    statusShows s.status e = true → statusShows t.status e = true) ∧
  (∀ (s t : State) (e : CmdError), step s = .next t → statusShows s.status e = true →
    statusShows t.status e = false →
    ∃ rest, s.pending = .reset :: rest ∨ ∃ w, s.pending = .resetDuring w :: rest) ∧
  (∀ s : State, RunInv s → (s.status = 0x00 ↔ ∀ r ∈ s.responses, r.err = 0))

/-- R68: every accepted command word is answered by exactly one response. Its code is 0 when the command succeeded and the
error's code otherwise; its data is the byte read when the command is a successful RDB and 0x00 in every other case. -/
def Obligations.OneResponsePerCommand : Prop :=
  ∀ (w : Word) (s : State), ∃ (t : State) (r : Response),
    step (presentWord w s) = .next t ∧ t.responses = s.responses ++ [r] ∧ t.pending = s.pending ∧
    (∀ i, decode w = .ok i → errorOf i = none → r.err = 0) ∧
    (∀ i e, decode w = .ok i → errorOf i = some e → r.err = e.code) ∧
    (∀ e, decode w = .error e → r.err = CmdError.illegalCommand.code) ∧
    (∀ a v, decode w = .ok (.rdb a) → memRead a s = some v → r.data = v) ∧
    ((∀ a v, decode w = .ok (.rdb a) → memRead a s ≠ some v) → r.data = 0x00)

/-- R205 and R207: whatever command words wait at the port, in whatever state, as many steps as there are words consume
them all, each with one response; the core never stops in between. -/
def Obligations.EveryRunIsAnswered : Prop :=
  ∀ (ws : List Word) (s : State), s.pending = ws.map HostEvent.command →
    ∃ t : State, Host.Core.run Sys2Proof.core ws.length s = .next t ∧ t.pending = [] ∧
      t.responses.length = s.responses.length + ws.length ∧ t.resets = s.resets

/-- R29: no command's result depends on STATUS. Two states that differ in STATUS alone answer with the same bytes
everywhere but at STATUS, and with the same response unless the command is the RDB of STATUS itself. -/
def Obligations.NoResultDependsOnStatus : Prop :=
  ∀ (i : Instr) (s t : State) (x : Byte), exec i s = .next t →
    ∃ t', exec i (s.setStatus x) = .next t' ∧ (∀ l : Location, l ≠ .status → readAt l t' = readAt l t) ∧
      (i ≠ .rdb 0x0061 → t'.responses = t.responses)

/-! ## Errors and frames (60_exceptions.md, 10_state.md R35) -/

/-- R184: what raising an error does. Its sticky bit is set, the response is (code, 0x00), and nothing else changes; the
core takes the next command. The codes and bits are those of R180. -/
def Obligations.RaiseSetsOneStickyBit : Prop :=
  (∀ (e : CmdError) (s : State), ∃ t, raise e s = .next t ∧
    (∀ k < 8, t.status.getLsbD k = (s.status.getLsbD k || decide (k = e.bit))) ∧
    t.responses = s.responses ++ [⟨e.code, 0x00⟩] ∧
    (∀ l : Location, l ≠ .status → readAt l t = readAt l s) ∧ t.pending = s.pending ∧ t.resets = s.resets) ∧
  CmdError.invalidKeyLength.code = 1 ∧ CmdError.invalidKeyLength.bit = 0 ∧
  CmdError.invalidBlockLength.code = 2 ∧ CmdError.invalidBlockLength.bit = 1 ∧
  CmdError.invalidBitPosition.code = 3 ∧ CmdError.invalidBitPosition.bit = 2 ∧
  CmdError.illegalCommand.code = 4 ∧ CmdError.illegalCommand.bit = 3 ∧
  CmdError.badAccess.code = 5 ∧ CmdError.badAccess.bit = 4

/-- R181 to R183: which error a command raises is read from the command alone, by the table and the priority of those
rules, never from a buffer; and a command that raises none always completes, with STATUS as it was. -/
def Obligations.ErrorsComeFromTheWordAlone : Prop :=
  ∀ (i : Instr) (s : State),
    (∀ e, errorOf i = some e → exec i s = raise e s) ∧
    (errorOf i = none → ∃ t d, exec i s = .next t ∧ t.status = s.status ∧
      t.responses = s.responses ++ [⟨0x0, d⟩])

/-- R35, R9: the frame of all 19 commands. A command leaves every byte of the buffer space outside its write set as it
was; one that raises an error leaves every byte but STATUS; one that raises none leaves STATUS; and no command touches
the events at the port or the reset counter. All registers of the core are bytes of the buffer space. -/
def Obligations.FrameOfEveryCommand : Prop :=
  ∀ (i : Instr) (s t : State), exec i s = .next t →
    (∀ a : Addr, a ≠ 0x0061 → ¬ mayWrite i a → memRead a t = memRead a s) ∧
    (errorOf i ≠ none → ∀ a : Addr, a ≠ 0x0061 → memRead a t = memRead a s) ∧
    (errorOf i = none → memRead 0x0061 t = memRead 0x0061 s) ∧
    t.pending = s.pending ∧ t.resets = s.resets

/-! ## The buffer space (20_memory.md) -/

/-- R41, R46, R47: the address map, read: every byte of every buffer at its address, and nothing at an unmapped one. -/
def Obligations.MemReadFollowsTheMap : Prop :=
  ∀ s : State,
    (∀ i : Fin 16, memRead (BitVec.ofNat 16 (0x0000 + i.val)) s = some s.keyin[i] ∧
      memRead (BitVec.ofNat 16 (0x0010 + i.val)) s = some s.din[i] ∧
      memRead (BitVec.ofNat 16 (0x0020 + i.val)) s = some s.ref[i] ∧
      memRead (BitVec.ofNat 16 (0x0030 + i.val)) s = some s.dout[i]) ∧
    (∀ i : Fin 11, memRead (BitVec.ofNat 16 (0x0040 + 2 * i.val)) s = some s.avr[i].round ∧
      memRead (BitVec.ofNat 16 (0x0041 + 2 * i.val)) s = some s.avr[i].count) ∧
    memRead 0x0060 s = some s.res ∧ memRead 0x0061 s = some s.status ∧
    (∀ i : Fin 176, memRead (BitVec.ofNat 16 (0x0100 + i.val)) s = some s.rk[i]) ∧
    (∀ a : Addr, hostReadable a = false → memRead a s = none)

/-- R48: a write to KEYIN, DIN, REF or RK changes that byte and no other, and writing the byte already held changes
nothing; a write anywhere else raises BadAccess and changes nothing. -/
def Obligations.WriteChangesOneByte : Prop :=
  ∀ (a : Addr) (v : Byte) (s : State),
    (hostWritable a = true → ∃ t, memWrite a v s = some t ∧ memRead a t = some v ∧
      (∀ b : Addr, b ≠ a → memRead b t = memRead b s) ∧
      t.pending = s.pending ∧ t.responses = s.responses ∧ t.resets = s.resets) ∧
    (hostWritable a = true → memRead a s = some v → memWrite a v s = some s) ∧
    (hostWritable a = false → memWrite a v s = none ∧ exec (.wrb a v) s = raise .badAccess s)

/-! ## The Galois-field unit (40_gf_arithmetic.md) -/

/-- The polynomial a byte stands for (R80). -/
noncomputable def bytePoly (b : Byte) : Polynomial (ZMod 2) :=
  ∑ k ∈ Finset.range 8, if b.getLsbD k then (Polynomial.X : Polynomial (ZMod 2)) ^ k else 0

/-- The reduction polynomial m(x) = x^8 + x^4 + x^3 + x + 1 (R80). -/
noncomputable def fieldPoly : Polynomial (ZMod 2) :=
  Polynomial.X ^ 8 + Polynomial.X ^ 4 + Polynomial.X ^ 3 + Polynomial.X + 1

/-- R80: the byte operations are those of the field. Bytes are the polynomials of degree below 8, xor is their addition,
and `gmul` is their product modulo m(x). -/
def Obligations.GmulIsThePolynomialProduct : Prop :=
  (∀ a b : Byte, bytePoly a = bytePoly b → a = b) ∧
  (∀ a b : Byte, bytePoly (a ^^^ b) = bytePoly a + bytePoly b) ∧
  (∀ a b : Byte, fieldPoly ∣ bytePoly a * bytePoly b - bytePoly (gmul a b))

/-- R83, items (ii) to (viii), which the spec marks as derived: the laws of multiplication. -/
def Obligations.FieldLaws : Prop :=
  (∀ b : Byte, gmul 0x00 b = 0x00 ∧ gmul b 0x00 = 0x00 ∧ gmul 0x01 b = b ∧ gmul b 0x01 = b) ∧
  (∀ a b : Byte, gmul a b = gmul b a) ∧
  (∀ a b c : Byte, gmul a (gmul b c) = gmul (gmul a b) c) ∧
  (∀ a b c : Byte, gmul a (b ^^^ c) = gmul a b ^^^ gmul a c) ∧
  (∀ a b : Byte, gmul a b = 0x00 → a = 0x00 ∨ b = 0x00) ∧
  (∀ a : Byte, a ≠ 0x00 → ∃ b, gmul a b = 0x01 ∧ ∀ c, gmul a c = 0x01 → c = b) ∧
  (∀ b : Byte, gmul 0x00 b ≠ 0x01)

/-- R84: each of the six printed tables holds the products by its constant (the tables are those of R91 and R92). -/
def Obligations.TablesHoldTheProducts : Prop :=
  ∀ b : Byte, mul2 b = gmul 2 b ∧ mul3 b = gmul 3 b ∧ mul9 b = gmul 9 b ∧ mul11 b = gmul 11 b ∧
    mul13 b = gmul 13 b ∧ mul14 b = gmul 14 b

/-- R85: the printed S-box is the affine map of the field inverse, with 0x00 mapped to 0x00 (the construction the spec
supplies from general knowledge, G1). -/
def Obligations.SboxIsAffineOfInverse : Prop :=
  ∀ b : Byte, ∃ v : Byte, (b = 0x00 ∧ v = 0x00 ∨ gmul b v = 0x01) ∧
    sbox b = v ^^^ v.rotateLeft 1 ^^^ v.rotateLeft 2 ^^^ v.rotateLeft 3 ^^^ v.rotateLeft 4 ^^^ 0x63

/-- R86 and R87 (R87 is marked by the spec as derived): the two tables are inverse permutations; the S-box has no fixed
point and no opposite fixed point, and is not linear. -/
def Obligations.SubstitutionTablesAreInverse : Prop :=
  (∀ x : Byte, invSbox (sbox x) = x ∧ sbox (invSbox x) = x) ∧
  (∀ x y : Byte, invSbox y = x ↔ sbox x = y) ∧
  (∀ x : Byte, sbox x ≠ x ∧ sbox x ≠ x ^^^ 0xFF) ∧
  sbox 0x00 = 0x63 ∧ sbox 0x01 = 0x7C ∧ sbox 0xFF = 0x16 ∧ invSbox 0x00 = 0x52 ∧ invSbox 0x63 = 0x00

/-- R88: SBOX b. -/
def Obligations.SboxWritesRes : Prop :=
  (∀ (b : Byte) (s : State), exec (.sbox b) s = .next ((s.setRes (sbox b)).respond ⟨0, 0x00⟩)) ∧
  (∀ b : Byte, RunsAs (packWord 0x10 b 0x00 0x00) (.sbox b)) ∧
  (∀ a b c : Byte, b ≠ 0x00 ∨ c ≠ 0x00 → IsIllegal (packWord 0x10 a b c)) ∧
  sbox 0x00 = 0x63 ∧ encode (.sbox 0x53) = 0x00005310 ∧ sbox 0x53 = 0xED

/-- R89: INVSBOX b. -/
def Obligations.InvSboxWritesRes : Prop :=
  (∀ (b : Byte) (s : State), exec (.invSbox b) s = .next ((s.setRes (invSbox b)).respond ⟨0, 0x00⟩)) ∧
  (∀ b : Byte, RunsAs (packWord 0x11 b 0x00 0x00) (.invSbox b)) ∧
  (∀ a b c : Byte, b ≠ 0x00 ∨ c ≠ 0x00 → IsIllegal (packWord 0x11 a b c)) ∧
  invSbox 0x63 = 0x00 ∧ invSbox 0x00 = 0x52 ∧ encode (.invSbox 0xED) = 0x0000ED11 ∧ invSbox 0xED = 0x53

/-- R90: GFMUL c, b, for every constant; symmetric in its operands. -/
def Obligations.GfmulWritesRes : Prop :=
  (∀ (c b : Byte) (s : State), exec (.gfMul c b) s = .next ((s.setRes (gmul c b)).respond ⟨0, 0x00⟩)) ∧
  (∀ b c : Byte, RunsAs (packWord 0x12 b c 0x00) (.gfMul c b)) ∧
  (∀ a b c : Byte, c ≠ 0x00 → IsIllegal (packWord 0x12 a b c)) ∧
  (∀ c b : Byte, gmul 0x00 b = 0x00 ∧ gmul c 0x00 = 0x00 ∧ gmul 0x01 b = b ∧ gmul c b = gmul b c) ∧
  encode (.gfMul 0x13 0x57) = 0x00135712 ∧ gmul 0x13 0x57 = 0xFE ∧
  encode (.gfMul 0x02 0x80) = 0x00028012 ∧ gmul 0x02 0x80 = 0x1B

/-! ## The key expansion engine (41_key_schedule.md) -/

/-- R101 to R103: the rotation, the substitution, and the round constants, xored into byte 0 only. -/
def Obligations.KeyScheduleWordFunctions : Prop :=
  (∀ t : Column, rotWord t = ⟨t.b1, t.b2, t.b3, t.b0⟩ ∧
    subWord t = ⟨sbox t.b0, sbox t.b1, sbox t.b2, sbox t.b3⟩) ∧
  rotWord ⟨0x0C, 0x0D, 0x0E, 0x0F⟩ = ⟨0x0D, 0x0E, 0x0F, 0x0C⟩ ∧
  subWord ⟨0x0D, 0x0E, 0x0F, 0x0C⟩ = ⟨0xD7, 0xAB, 0x76, 0xFE⟩ ∧
  (List.range 10).map (fun i => rcon (i + 1)) = [0x01, 0x02, 0x04, 0x08, 0x10, 0x20, 0x40, 0x80, 0x1B, 0x36] ∧
  (∀ i < 9, rcon (i + 2) = xtime (rcon (i + 1))) ∧
  (∀ (i : Nat) (t : Column), specialWord i t =
    ⟨(subWord (rotWord t)).b0 ^^^ rcon i, (subWord (rotWord t)).b1, (subWord (rotWord t)).b2,
      (subWord (rotWord t)).b3⟩)

/-- R104: the schedule, byte by byte. The first 16 bytes are the key; word j, for j in 4..43, is word j - 4 xor word
j - 1, and where j is a multiple of 4 word j - 1 is first rotated and substituted and has the round constant added. -/
def Obligations.ExpandKeyFollowsTheRecurrence : Prop :=
  ∀ k : Block,
    (∀ i : Fin 16, (expandKey k)[i.val] = k[i]) ∧
    (∀ (j : Nat) (_ : 4 ≤ j) (hi : j < 44),
      let w := expandKey k
      let prev : Column := ⟨w[4 * (j - 1)], w[4 * (j - 1) + 1], w[4 * (j - 1) + 2], w[4 * (j - 1) + 3]⟩
      let t := if j % 4 = 0 then specialWord (j / 4) prev else prev
      w[4 * j] = w[4 * (j - 4)] ^^^ t.b0 ∧ w[4 * j + 1] = w[4 * (j - 4) + 1] ^^^ t.b1 ∧
      w[4 * j + 2] = w[4 * (j - 4) + 2] ^^^ t.b2 ∧ w[4 * j + 3] = w[4 * (j - 4) + 3] ^^^ t.b3)

/-- R105 and R107 (which the spec marks as derived): round key 0 is the key; each round key is made from the one before
with its own round constant; and different keys expand differently. -/
def Obligations.RoundKeyFollowsFromTheOneBefore : Prop :=
  (∀ k : Block, roundKey (expandKey k) 0 = k) ∧
  (∀ (k : Block) (i : Nat), i < 10 →
    let p := roundKey (expandKey k) i
    let q := roundKey (expandKey k) (i + 1)
    columnOf q 0 = xorColumn (columnOf p 0) (specialWord (i + 1) (columnOf p 3)) ∧
    columnOf q 1 = xorColumn (columnOf p 1) (columnOf q 0) ∧
    columnOf q 2 = xorColumn (columnOf p 2) (columnOf q 1) ∧
    columnOf q 3 = xorColumn (columnOf p 3) (columnOf q 2)) ∧
  (∀ k l : Block, expandKey k = expandKey l → k = l)

/-- R106: EXPANDKEY [len]. -/
def Obligations.ExpandKeyWritesRk : Prop :=
  (∀ s : State, exec (.expandKey 16) s = .next ((s.setRk (expandKey s.keyin)).respond ⟨0, 0x00⟩)) ∧
  (∀ (len : Byte) (s : State), len ≠ 16 → exec (.expandKey len) s = raise .invalidKeyLength s) ∧
  (∀ len : Byte, RunsAs (packWord 0x01 0x00 0x00 len) (.expandKey len)) ∧
  (∀ a b c : Byte, a ≠ 0x00 ∨ b ≠ 0x00 → IsIllegal (packWord 0x01 a b c)) ∧
  encode (.expandKey 16) = 0x10000001 ∧
  roundKey (expandKey (hexBlock 0x000102030405060708090a0b0c0d0e0f)) 0
    = hexBlock 0x000102030405060708090a0b0c0d0e0f ∧
  roundKey (expandKey (hexBlock 0x000102030405060708090a0b0c0d0e0f)) 1
    = hexBlock 0xd6aa74fdd2af72fadaa678f1d6ab76fe ∧
  roundKey (expandKey (hexBlock 0x000102030405060708090a0b0c0d0e0f)) 10
    = hexBlock 0x13111d7fe3944a17f307a78b4d2b30c5

/-! ## The round pipelines (42_forward_round.md, 43_inverse_round.md) -/

/-- R111 and R131: ShiftRows moves the element at row r, column (c + r) mod 4 to column c, InvShiftRows the one at column
(c - r) mod 4; their index tables; and a State of four equal columns is unchanged. -/
def Obligations.ShiftRowsRotatesTheRows : Prop :=
  (∀ (s : Block) (c r : Fin 4),
    (shiftRows s)[4 * c.val + r.val] = s[4 * ((c.val + r.val) % 4) + r.val] ∧
    (invShiftRows s)[4 * c.val + r.val] = s[4 * ((c.val + (4 - r.val)) % 4) + r.val]) ∧
  (∀ s : Block, shiftRows s = #v[s[0], s[5], s[10], s[15], s[4], s[9], s[14], s[3], s[8], s[13], s[2], s[7], s[12],
    s[1], s[6], s[11]]) ∧
  (∀ s : Block, invShiftRows s = #v[s[0], s[13], s[10], s[7], s[4], s[1], s[14], s[11], s[8], s[5], s[2], s[15], s[12],
    s[9], s[6], s[3]]) ∧
  (∀ s : Block, invShiftRows (shiftRows s) = s ∧ shiftRows (invShiftRows s) = s) ∧
  (∀ s : Block, (∀ c : Fin 4, columnOf s c = columnOf s 0) → shiftRows s = s) ∧
  shiftRows (hexBlock 0x000102030405060708090a0b0c0d0e0f) = hexBlock 0x00050a0f04090e03080d02070c01060b ∧
  shiftRows (hexBlock 0x63cab7040953d051cd60e0e7ba70e18c) = hexBlock 0x6353e08c0960e104cd70b751bacad0e7 ∧
  invShiftRows (hexBlock 0x000102030405060708090a0b0c0d0e0f) = hexBlock 0x000d0a0704010e0b0805020f0c090603 ∧
  invShiftRows (hexBlock 0x7ad5fda789ef4e272bca100b3d9ff59f) = hexBlock 0x7a9f102789d5f50b2beffd9f3dca4ea7

/-- R112 and R132: MixColumns and InvMixColumns are the products of each column with the circulant matrices of rows
(2, 3, 1, 1) and (14, 11, 13, 9) over the field; a column of four equal bytes is unchanged; both are linear over xor. -/
def Obligations.MixColumnsIsTheMatrixProduct : Prop :=
  (∀ (s : Block) (c r : Fin 4),
    (mixColumns s)[4 * c.val + r.val] =
      gmul 2 s[4 * c.val + r.val] ^^^ gmul 3 s[4 * c.val + (r.val + 1) % 4] ^^^
        gmul 1 s[4 * c.val + (r.val + 2) % 4] ^^^ gmul 1 s[4 * c.val + (r.val + 3) % 4] ∧
    (invMixColumns s)[4 * c.val + r.val] =
      gmul 14 s[4 * c.val + r.val] ^^^ gmul 11 s[4 * c.val + (r.val + 1) % 4] ^^^
        gmul 13 s[4 * c.val + (r.val + 2) % 4] ^^^ gmul 9 s[4 * c.val + (r.val + 3) % 4]) ∧
  (∀ v : Byte, mixColumn ⟨v, v, v, v⟩ = ⟨v, v, v, v⟩ ∧ invMixColumn ⟨v, v, v, v⟩ = ⟨v, v, v, v⟩) ∧
  (∀ s t : Block, mixColumns (addRoundKey s t) = addRoundKey (mixColumns s) (mixColumns t) ∧
    invMixColumns (addRoundKey s t) = addRoundKey (invMixColumns s) (invMixColumns t))

/-- R113: AddRoundKey is the byte-wise xor; adding zero changes nothing, adding a State to itself gives zero, and it is
its own inverse. -/
def Obligations.AddRoundKeyIsSelfInverse : Prop :=
  (∀ (s k : Block) (i : Fin 16), (addRoundKey s k)[i] = s[i] ^^^ k[i]) ∧
  (∀ s k : Block, addRoundKey (addRoundKey s k) k = s) ∧
  (∀ s : Block, addRoundKey s (Vector.ofFn fun _ => 0x00) = s ∧ addRoundKey s s = Vector.ofFn fun _ => 0x00) ∧
  addRoundKey (hexBlock 0x00112233445566778899aabbccddeeff) (hexBlock 0x000102030405060708090a0b0c0d0e0f)
    = hexBlock 0x00102030405060708090a0b0c0d0e0f0

/-- R130 to R132, the inverse identities (which the spec marks as derived): each inverse transform undoes its transform,
in both orders, on every State. -/
def Obligations.InverseTransformsUndoTheForward : Prop :=
  ∀ s : Block,
    invSubBytes (subBytes s) = s ∧ subBytes (invSubBytes s) = s ∧
    invShiftRows (shiftRows s) = s ∧ shiftRows (invShiftRows s) = s ∧
    invMixColumns (mixColumns s) = s ∧ mixColumns (invMixColumns s) = s

/-- R138, the primary correctness oracle: decryption inverts encryption and encryption inverts decryption, for every
block and every 176 bytes of expanded key, an expansion or not; and the commands ENCRYPT, XFER, DECRYPT restore DIN in
DOUT from any state. -/
def Obligations.DecryptInvertsEncrypt : Prop :=
  (∀ (p : Block) (w : ExpandedKey), decryptBlock (encryptBlock p w) w = p) ∧
  (∀ (c : Block) (w : ExpandedKey), encryptBlock (decryptBlock c w) w = c) ∧
  (∀ s : State, ∃ t, execAll [.encrypt 16, xfer, .decrypt 16] s = .next t ∧ t.dout = s.din)

/-- R121 item iv (which the spec marks as derived): the single command ENCRYPT delivers what the program of single
transforms delivers, from any state, without an error. -/
def Obligations.EncryptIsTheStepProgram : Prop :=
  ∀ s : State, ∃ t, execAll encryptProgram s = .next t ∧
    exec (.encrypt 16) s = .next ((s.setDout t.dout).respond ⟨0, 0x00⟩) ∧
    t.rk = s.rk ∧ t.keyin = s.keyin ∧ t.status = s.status

/-- R116: SUBBYTES. -/
def Obligations.SubBytesWritesDout : Prop :=
  (∀ s : State, exec .subBytes s = .next ((s.setDout (subBytes s.din)).respond ⟨0, 0x00⟩)) ∧
  (∀ (x : Block) (i : Fin 16), (subBytes x)[i] = sbox x[i]) ∧
  RunsAs 0x00000020 .subBytes ∧
  (∀ a b c : Byte, a ≠ 0x00 ∨ b ≠ 0x00 ∨ c ≠ 0x00 → IsIllegal (packWord 0x20 a b c)) ∧
  subBytes (hexBlock 0x00) = hexBlock 0x63636363636363636363636363636363 ∧
  subBytes (hexBlock 0x00102030405060708090a0b0c0d0e0f0) = hexBlock 0x63cab7040953d051cd60e0e7ba70e18c

/-- R117: SHIFTROWS; row 0 never moves, and four SHIFTROWS restore the block. -/
def Obligations.ShiftRowsWritesDout : Prop :=
  (∀ s : State, exec .shiftRows s = .next ((s.setDout (shiftRows s.din)).respond ⟨0, 0x00⟩)) ∧
  RunsAs 0x00000021 .shiftRows ∧
  (∀ a b c : Byte, a ≠ 0x00 ∨ b ≠ 0x00 ∨ c ≠ 0x00 → IsIllegal (packWord 0x21 a b c)) ∧
  (∀ (x : Block) (c : Fin 4), (shiftRows x)[4 * c.val] = x[4 * c.val]) ∧
  (∀ s : State, ∃ t, execAll [.shiftRows, xfer, .shiftRows, xfer, .shiftRows, xfer, .shiftRows] s = .next t ∧
    t.dout = s.din) ∧
  shiftRows (hexBlock 0x000102030405060708090a0b0c0d0e0f) = hexBlock 0x00050a0f04090e03080d02070c01060b

/-- R118: MIXCOLUMNS. -/
def Obligations.MixColumnsWritesDout : Prop :=
  (∀ s : State, exec .mixColumns s = .next ((s.setDout (mixColumns s.din)).respond ⟨0, 0x00⟩)) ∧
  RunsAs 0x00000022 .mixColumns ∧
  (∀ a b c : Byte, a ≠ 0x00 ∨ b ≠ 0x00 ∨ c ≠ 0x00 → IsIllegal (packWord 0x22 a b c)) ∧
  (∀ v : Byte, mixColumn ⟨v, v, v, v⟩ = ⟨v, v, v, v⟩) ∧ mixColumns (hexBlock 0x00) = hexBlock 0x00 ∧
  mixColumns (hexBlock 0xdb135345f20a225c01010101c6c6c6c6) = hexBlock 0x8e4da1bc9fdc589d01010101c6c6c6c6

/-- R119: ADDROUNDKEY r, with round key r of RK; done twice with XFER between it restores DIN in DOUT. -/
def Obligations.AddRoundKeyWritesDout : Prop :=
  (∀ (r : Byte) (s : State), r.toNat ≤ 10 →
    exec (.addRoundKey r) s = .next ((s.setDout (addRoundKey s.din (roundKey s.rk r.toNat))).respond ⟨0, 0x00⟩)) ∧
  (∀ (w : ExpandedKey) (r : Fin 11) (j : Fin 16), (roundKey w r.val)[j] = w[16 * r.val + j.val]) ∧
  (∀ r : Byte, r.toNat ≤ 10 → RunsAs (packWord 0x23 r 0x00 0x00) (.addRoundKey r)) ∧
  (∀ a b c : Byte, b ≠ 0x00 ∨ c ≠ 0x00 ∨ 10 < a.toNat → IsIllegal (packWord 0x23 a b c)) ∧
  (∀ (r : Byte) (s : State), r.toNat ≤ 10 →
    ∃ t, execAll [.addRoundKey r, xfer, .addRoundKey r] s = .next t ∧ t.dout = s.din) ∧
  encode (.addRoundKey 0) = 0x00000023 ∧
  addRoundKey (hexBlock 0x00112233445566778899aabbccddeeff)
      (roundKey (expandKey (hexBlock 0x000102030405060708090a0b0c0d0e0f)) 0)
    = hexBlock 0x00102030405060708090a0b0c0d0e0f0

/-- R120: ENCRYPT [len], with the example, which is the source's known answer. -/
def Obligations.EncryptWritesDout : Prop :=
  (∀ s : State, exec (.encrypt 16) s = .next ((s.setDout (encryptBlock s.din s.rk)).respond ⟨0, 0x00⟩)) ∧
  (∀ (len : Byte) (s : State), len ≠ 16 → exec (.encrypt len) s = raise .invalidBlockLength s) ∧
  (∀ len : Byte, RunsAs (packWord 0x02 0x00 0x00 len) (.encrypt len)) ∧
  (∀ a b c : Byte, a ≠ 0x00 ∨ b ≠ 0x00 → IsIllegal (packWord 0x02 a b c)) ∧
  encode (.encrypt 16) = 0x10000002 ∧
  encryptBlock (hexBlock 0x00112233445566778899aabbccddeeff)
      (expandKey (hexBlock 0x000102030405060708090a0b0c0d0e0f))
    = hexBlock 0x69c4e0d86a7b0430d8cdb78070b4c55a

/-- R134: INVSUBBYTES. -/
def Obligations.InvSubBytesWritesDout : Prop :=
  (∀ s : State, exec .invSubBytes s = .next ((s.setDout (invSubBytes s.din)).respond ⟨0, 0x00⟩)) ∧
  (∀ (x : Block) (i : Fin 16), (invSubBytes x)[i] = invSbox x[i]) ∧
  RunsAs 0x00000028 .invSubBytes ∧
  (∀ a b c : Byte, a ≠ 0x00 ∨ b ≠ 0x00 ∨ c ≠ 0x00 → IsIllegal (packWord 0x28 a b c)) ∧
  invSubBytes (hexBlock 0x63cab7040953d051cd60e0e7ba70e18c) = hexBlock 0x00102030405060708090a0b0c0d0e0f0

/-- R135: INVSHIFTROWS; row 0 never moves. -/
def Obligations.InvShiftRowsWritesDout : Prop :=
  (∀ s : State, exec .invShiftRows s = .next ((s.setDout (invShiftRows s.din)).respond ⟨0, 0x00⟩)) ∧
  RunsAs 0x00000029 .invShiftRows ∧
  (∀ a b c : Byte, a ≠ 0x00 ∨ b ≠ 0x00 ∨ c ≠ 0x00 → IsIllegal (packWord 0x29 a b c)) ∧
  (∀ (x : Block) (c : Fin 4), (invShiftRows x)[4 * c.val] = x[4 * c.val]) ∧
  invShiftRows (hexBlock 0x00050a0f04090e03080d02070c01060b) = hexBlock 0x000102030405060708090a0b0c0d0e0f

/-- R136: INVMIXCOLUMNS. -/
def Obligations.InvMixColumnsWritesDout : Prop :=
  (∀ s : State, exec .invMixColumns s = .next ((s.setDout (invMixColumns s.din)).respond ⟨0, 0x00⟩)) ∧
  RunsAs 0x0000002A .invMixColumns ∧
  (∀ a b c : Byte, a ≠ 0x00 ∨ b ≠ 0x00 ∨ c ≠ 0x00 → IsIllegal (packWord 0x2A a b c)) ∧
  (∀ v : Byte, invMixColumn ⟨v, v, v, v⟩ = ⟨v, v, v, v⟩) ∧ invMixColumns (hexBlock 0x00) = hexBlock 0x00 ∧
  invMixColumns (hexBlock 0x8e4da1bc9fdc589d01010101c6c6c6c6) = hexBlock 0xdb135345f20a225c01010101c6c6c6c6

/-- R137: DECRYPT [len]. -/
def Obligations.DecryptWritesDout : Prop :=
  (∀ s : State, exec (.decrypt 16) s = .next ((s.setDout (decryptBlock s.din s.rk)).respond ⟨0, 0x00⟩)) ∧
  (∀ (len : Byte) (s : State), len ≠ 16 → exec (.decrypt len) s = raise .invalidBlockLength s) ∧
  (∀ len : Byte, RunsAs (packWord 0x03 0x00 0x00 len) (.decrypt len)) ∧
  (∀ a b c : Byte, a ≠ 0x00 ∨ b ≠ 0x00 → IsIllegal (packWord 0x03 a b c)) ∧
  encode (.decrypt 16) = 0x10000003 ∧
  decryptBlock (hexBlock 0x69c4e0d86a7b0430d8cdb78070b4c55a)
      (expandKey (hexBlock 0x000102030405060708090a0b0c0d0e0f))
    = hexBlock 0x00112233445566778899aabbccddeeff

/-! ## The avalanche harness (44_avalanche.md) -/

/-- R150: flipBit inverts bit (p mod 8) of byte (p div 8) and no other of the 128 bits; done twice it restores the
value. -/
def Obligations.FlipBitInvertsOneBit : Prop :=
  (∀ (x : Block) (p : Nat) (i : Fin 16) (k : Nat), p < 128 → k < 8 →
    (flipBit x p)[i].getLsbD k = (x[i].getLsbD k ^^ decide (i.val = p / 8 ∧ k = p % 8))) ∧
  (∀ (x : Block) (p : Nat), flipBit (flipBit x p) p = x) ∧
  flipBit (hexBlock 0x00112233445566778899aabbccddeeff) 0 = hexBlock 0x01112233445566778899aabbccddeeff ∧
  flipBit (hexBlock 0x00112233445566778899aabbccddeeff) 8 = hexBlock 0x00102233445566778899aabbccddeeff ∧
  flipBit (hexBlock 0x00112233445566778899aabbccddeeff) 77 = hexBlock 0x001122334455667788b9aabbccddeeff ∧
  flipBit (hexBlock 0x00112233445566778899aabbccddeeff) 127 = hexBlock 0x00112233445566778899aabbccddee7f

/-- R151 and R152 (the properties are marked by the spec as derived): the changed-bit count is the number of positions
in which the two values differ; it is at most 128, symmetric, 0 exactly on equal values, 128 exactly on complements,
and 1 for a value and the value with one bit flipped. -/
def Obligations.ChangedBitsIsTheHammingDistance : Prop :=
  (∀ x y : Block, countChangedBits x y =
    ((Finset.univ : Finset (Fin 16 × Fin 8)).filter fun q =>
      x[q.1].getLsbD q.2.val ≠ y[q.1].getLsbD q.2.val).card) ∧
  (∀ x y : Block, countChangedBits x y ≤ 128 ∧ countChangedBits x y = countChangedBits y x) ∧
  (∀ x y : Block, countChangedBits x y = 0 ↔ x = y) ∧
  (∀ x y : Block, countChangedBits x y = 128 ↔ ∀ i : Fin 16, y[i] = ~~~ x[i]) ∧
  (∀ (x : Block) (p : Nat), p < 128 → countChangedBits x (flipBit x p) = 1)

/-- R158 items i, ii and iv (which the spec marks as derived): for every block, every 176 bytes of expanded key, every
position and both targets the first count is 1, and every count is at most 128. -/
def Obligations.FirstAvalancheCountIsOne : Prop :=
  (∀ (p : Block) (w : ExpandedKey) (pos : Nat) (target : Target), pos < 128 →
    (avalancheRecord p w pos target)[0] = 1) ∧
  (∀ (p : Block) (w : ExpandedKey) (pos : Nat) (target : Target) (i : Fin 11),
    (avalancheRecord p w pos target)[i] ≤ 128)

/-- R158 items iii and v (which the spec marks as derived): a flipped plaintext bit changes 4 to 32 bits after round 1,
and at least one bit at every checkpoint. -/
def Obligations.PlaintextFlipSpreads : Prop :=
  ∀ (p : Block) (w : ExpandedKey) (pos : Nat), pos < 128 →
    4 ≤ (avalancheRecord p w pos .plaintext)[1] ∧ (avalancheRecord p w pos .plaintext)[1] ≤ 32 ∧
    ∀ i : Fin 11, (avalancheRecord p w pos .plaintext)[i] ≠ 0

/-- R155: FLIPBIT pos. -/
def Obligations.FlipBitWritesDout : Prop :=
  (∀ (pos : Byte) (s : State), pos.toNat ≤ 127 →
    exec (.flipBit pos) s = .next ((s.setDout (flipBit s.din pos.toNat)).respond ⟨0, 0x00⟩)) ∧
  (∀ (pos : Byte) (s : State), 127 < pos.toNat → exec (.flipBit pos) s = raise .invalidBitPosition s) ∧
  (∀ pos : Byte, RunsAs (packWord 0x14 pos 0x00 0x00) (.flipBit pos)) ∧
  (∀ a b c : Byte, b ≠ 0x00 ∨ c ≠ 0x00 → IsIllegal (packWord 0x14 a b c)) ∧
  (∀ x : Block, (flipBit x 0)[0] = x[0] ^^^ 0x01 ∧ (flipBit x 7)[0] = x[0] ^^^ 0x80 ∧
    (flipBit x 8)[1] = x[1] ^^^ 0x01 ∧ (flipBit x 127)[15] = x[15] ^^^ 0x80) ∧
  encode (.flipBit 127) = 0x00007F14 ∧ encode (.flipBit 128) = 0x00008014 ∧
  flipBit (hexBlock 0x00112233445566778899aabbccddeeff) 127 = hexBlock 0x00112233445566778899aabbccddee7f

/-- R156: HAMMING. -/
def Obligations.HammingWritesRes : Prop :=
  (∀ s : State, ∃ n : Byte, n.toNat = countChangedBits s.din s.ref ∧ n.toNat ≤ 128 ∧
    exec .hamming s = .next ((s.setRes n).respond ⟨0, 0x00⟩)) ∧
  RunsAs 0x00000013 .hamming ∧
  (∀ a b c : Byte, a ≠ 0x00 ∨ b ≠ 0x00 ∨ c ≠ 0x00 → IsIllegal (packWord 0x13 a b c)) ∧
  (∀ x y : Block, countChangedBits x x = 0 ∧ countChangedBits x y = countChangedBits y x ∧
    (countChangedBits x y = 128 ↔ ∀ i : Fin 16, y[i] = ~~~ x[i])) ∧
  countChangedBits (hexBlock 0x00112233445566778899aabbccddeeff) (hexBlock 0x000102030405060708090a0b0c0d0e0f) = 32

/-- R157: AVALANCHE pos, target [, len]: AVR[i] becomes (i, n[i]); the length is checked before the position (R182). The
rule's printed counts are not restated here. -/
def Obligations.AvalancheWritesAvr : Prop :=
  (∀ (pos : Byte) (target : Target) (s : State), pos.toNat ≤ 127 →
    ∃ v : Vector AvrEntry 11, exec (.avalanche pos target 16) s = .next ((s.setAvr v).respond ⟨0, 0x00⟩) ∧
      ∀ i : Fin 11, v[i].round.toNat = i.val ∧
        v[i].count.toNat = (avalancheRecord s.din s.rk pos.toNat target)[i]) ∧
  (∀ (pos : Byte) (target : Target) (len : Byte) (s : State), len ≠ 16 →
    exec (.avalanche pos target len) s = raise .invalidBlockLength s) ∧
  (∀ (pos : Byte) (target : Target) (s : State), 127 < pos.toNat →
    exec (.avalanche pos target 16) s = raise .invalidBitPosition s) ∧
  (∀ pos len : Byte, RunsAs (packWord 0x04 pos 0x00 len) (.avalanche pos .plaintext len) ∧
    RunsAs (packWord 0x04 pos 0x01 len) (.avalanche pos .key len)) ∧
  (∀ a b c : Byte, 1 < b.toNat → IsIllegal (packWord 0x04 a b c)) ∧
  (∀ (p : Block) (w : ExpandedKey) (pos : Nat) (i : Fin 11),
    (avalancheRecord p w pos .plaintext)[i] = countChangedBits (checkpoint p w i.val)
      (checkpoint (flipBit p pos) w i.val) ∧
    (avalancheRecord p w pos .key)[i] = countChangedBits (checkpoint p w i.val)
      (checkpoint p (expandKey (flipBit (roundKey w 0) pos)) i.val))

/-! ## Data movement (45_data_movement.md) -/

/-- R170: WRB addr, byte. -/
def Obligations.WrbWritesOneByte : Prop :=
  (∀ (a : Addr) (v : Byte) (s : State), hostWritable a = true →
    ∃ t, exec (.wrb a v) s = .next t ∧ memRead a t = some v ∧ (∀ b : Addr, b ≠ a → memRead b t = memRead b s) ∧
      t.responses = s.responses ++ [⟨0, 0x00⟩] ∧ t.pending = s.pending ∧ t.resets = s.resets) ∧
  (∀ (a : Addr) (v : Byte) (s : State), hostWritable a = false → exec (.wrb a v) s = raise .badAccess s) ∧
  (∀ (a : Addr) (v : Byte), RunsAs (packAddrWord 0x30 v a) (.wrb a v)) ∧
  hostWritable 0x01AF = true ∧ hostWritable 0x01B0 = false ∧ hostWritable 0x0061 = false ∧
  encode (.wrb 0x0010 0xAB) = 0x0010AB30 ∧ encode (.wrb 0x0030 0x00) = 0x00300030 ∧ hostWritable 0x0030 = false

/-- R171: RDB addr. A failed RDB shows in the STATUS that the next one reads; and the example's two result bytes. -/
def Obligations.RdbReadsOneByte : Prop :=
  (∀ (a : Addr) (s : State), hostReadable a = true →
    ∃ v, memRead a s = some v ∧ exec (.rdb a) s = .next (s.respond ⟨0, v⟩)) ∧
  (∀ (a : Addr) (s : State), hostReadable a = false → exec (.rdb a) s = raise .badAccess s) ∧
  (∀ (a : Addr) (s : State), hostReadable a = false → ∃ t : State,
    execAll [.rdb a, .rdb 0x0061] s = .next t ∧ t.status = s.status ||| 0x10 ∧
    t.responses = s.responses ++ [⟨5, 0x00⟩, ⟨0, s.status ||| 0x10⟩]) ∧
  (∀ s : State, s.dout = hexBlock 0x69c4e0d86a7b0430d8cdb78070b4c55a →
    exec (.rdb 0x0030) s = .next (s.respond ⟨0, 0x69⟩) ∧ exec (.rdb 0x003F) s = .next (s.respond ⟨0, 0x5A⟩)) ∧
  (∀ a : Addr, RunsAs (packAddrWord 0x31 0x00 a) (.rdb a)) ∧
  (∀ (a : Addr) (x : Byte), x ≠ 0x00 → IsIllegal (packAddrWord 0x31 x a)) ∧
  encode (.rdb 0x0030) = 0x00300031 ∧ encode (.rdb 0x003F) = 0x003F0031 ∧ encode (.rdb 0x0056) = 0x00560031 ∧
  hostReadable 0x0056 = false

/-- R172: COPY dst, src. All 16 bytes are read before any is written; a copy of a buffer to itself changes nothing. -/
def Obligations.CopyMovesABuffer : Prop :=
  (∀ (src : Buf) (s : State),
    exec (.copy .keyin src) s = .next ((s.setKeyin (readBuffer src s)).respond ⟨0, 0x00⟩) ∧
    exec (.copy .din src) s = .next ((s.setDin (readBuffer src s)).respond ⟨0, 0x00⟩) ∧
    exec (.copy .ref src) s = .next ((s.setRef (readBuffer src s)).respond ⟨0, 0x00⟩)) ∧
  (∀ s : State, readBuffer .keyin s = s.keyin ∧ readBuffer .din s = s.din ∧ readBuffer .ref s = s.ref ∧
    readBuffer .dout s = s.dout) ∧
  (∀ (b : Buf) (s : State), b ≠ .dout → exec (.copy b b) s = .next (s.respond ⟨0, 0x00⟩)) ∧
  (∀ dst src : Buf, dst ≠ .dout → RunsAs (packWord 0x32 dst.code src.code 0x00) (.copy dst src)) ∧
  (∀ a b c : Byte, c ≠ 0x00 ∨ 2 < a.toNat ∨ 3 < b.toNat → IsIllegal (packWord 0x32 a b c)) ∧
  encode (.copy .din .dout) = 0x00030132 ∧ IsIllegal 0x00010332

/-- R71: what the pseudo-instructions do from any state: the loads fill a buffer and are answered (0, 0x00) once a byte,
the reads are answered with the bytes in order; and the words of the three that are one command. -/
def Obligations.PseudoInstructionsLoadAndRead : Prop :=
  (∀ (h : Block) (s : State),
    execAll (ldkey h) s = .next { s with keyin := h, responses := s.responses ++ List.replicate 16 ⟨0, 0x00⟩ } ∧
    execAll (ldblk h) s = .next { s with din := h, responses := s.responses ++ List.replicate 16 ⟨0, 0x00⟩ } ∧
    execAll (ldref h) s = .next { s with ref := h, responses := s.responses ++ List.replicate 16 ⟨0, 0x00⟩ }) ∧
  (∀ (h : ExpandedKey) (s : State),
    execAll (ldrk h) s = .next { s with rk := h, responses := s.responses ++ List.replicate 176 ⟨0, 0x00⟩ }) ∧
  (∀ s : State,
    execAll rdblk s = .next { s with responses := s.responses ++ s.dout.toList.map fun b => ⟨0, b⟩ } ∧
    execAll rdrk s = .next { s with responses := s.responses ++ s.rk.toList.map fun b => ⟨0, b⟩ } ∧
    execAll rdavr s = .next { s with
      responses := s.responses ++ s.avr.toList.flatMap fun e => [⟨0, e.round⟩, ⟨0, e.count⟩] } ∧
    exec rdres s = .next (s.respond ⟨0, s.res⟩) ∧ exec rdstatus s = .next (s.respond ⟨0, s.status⟩)) ∧
  encode rdres = 0x00600031 ∧ encode rdstatus = 0x00610031 ∧ encode xfer = 0x00030132
end

