-- ==== Sys2Proof/Laws/Blocks.lean ====
section
/-! SUPPORT. The bytes of every block function, by index (R45, R110 to R114, R130 to R133, R150), and the unfolding of
the two pipelines, so that no proof unfolds `Vector.ofFn`. -/

namespace Sys2Proof.Machine

/-- Two blocks with equal bytes are equal. -/
theorem Block.ext_bytes {x y : Block} (h : ∀ i : Fin 16, x[i] = y[i]) : x = y :=
  Vector.ext fun i hi => h ⟨i, hi⟩

@[simp] theorem subBytes_get (s : Block) (i : Nat) (h : i < 16) : (subBytes s)[i] = sbox s[i] := by simp [subBytes]

@[simp] theorem invSubBytes_get (s : Block) (i : Nat) (h : i < 16) : (invSubBytes s)[i] = invSbox s[i] := by
  simp [invSubBytes]

theorem shiftRows_get (s : Block) (i : Nat) (h : i < 16) :
    (shiftRows s)[i] = s[4 * ((i / 4 + i % 4) % 4) + i % 4] := by simp [shiftRows]

theorem invShiftRows_get (s : Block) (i : Nat) (h : i < 16) :
    (invShiftRows s)[i] = s[4 * ((i / 4 + 4 - i % 4) % 4) + i % 4] := by simp [invShiftRows]

@[simp] theorem addRoundKey_get (s k : Block) (i : Nat) (h : i < 16) : (addRoundKey s k)[i] = s[i] ^^^ k[i] := by
  simp [addRoundKey]

theorem onColumns_get (f : Column → Column) (s : Block) (i : Nat) (h : i < 16) :
    (onColumns f s)[i] = Column.byte (f (columnOf s ⟨i / 4, by omega⟩)) (i % 4) := by simp [onColumns]

/-- The columns of a State transformed column by column are the transformed columns. -/
theorem columnOf_onColumns (f : Column → Column) (s : Block) (c : Fin 4) :
    columnOf (onColumns f s) c = f (columnOf s c) := by
  obtain ⟨c, hc⟩ := c
  have h0 : 4 * c % 4 = 0 := by omega
  have h1 : (4 * c + 1) % 4 = 1 := by omega
  have h2 : (4 * c + 2) % 4 = 2 := by omega
  have h3 : (4 * c + 3) % 4 = 3 := by omega
  have d0 : 4 * c / 4 = c := by omega
  have d1 : (4 * c + 1) / 4 = c := by omega
  have d2 : (4 * c + 2) / 4 = c := by omega
  have d3 : (4 * c + 3) / 4 = c := by omega
  rw [columnOf]
  simp only [onColumns_get, h0, h1, h2, h3, d0, d1, d2, d3, Column.byte]
  simp

/-- A State is its four columns. -/
theorem block_eq_of_columns {x y : Block} (h : ∀ c : Fin 4, columnOf x c = columnOf y c) : x = y := by
  apply Vector.ext
  intro n hn
  obtain ⟨c, r, hc, hr, rfl⟩ : ∃ c r, c < 4 ∧ r < 4 ∧ n = 4 * c + r :=
    ⟨n / 4, n % 4, by omega, by omega, by omega⟩
  have hcol := h ⟨c, hc⟩
  simp only [columnOf, Column.mk.injEq] at hcol
  obtain ⟨h0, h1, h2, h3⟩ := hcol
  have cases_r : r = 0 ∨ r = 1 ∨ r = 2 ∨ r = 3 := by omega
  rcases cases_r with rfl | rfl | rfl | rfl
  · exact h0
  · exact h1
  · exact h2
  · exact h3

theorem roundKey_get (w : ExpandedKey) (i : Nat) (j : Nat) (hi : i ≤ 10) (hj : j < 16) :
    (roundKey w i)[j] = w[16 * i + j] := by
  simp [roundKey, Vector.getElem?_eq_getElem (show 16 * i + j < 176 by omega)]

theorem expandKey_get (k : Block) (i : Nat) (h : i < 176) :
    (expandKey k)[i] = Column.byte ((scheduleWords k).getD (i / 4) ⟨0, 0, 0, 0⟩) (i % 4) := by simp [expandKey]

theorem checkpoint_zero (p : Block) (w : ExpandedKey) : checkpoint p w 0 = addRoundKey p (roundKey w 0) := rfl

theorem checkpoint_full (p : Block) (w : ExpandedKey) (i : Nat) (h : i < 9) :
    checkpoint p w (i + 1) = fullRound (checkpoint p w i) (roundKey w (i + 1)) := by
  rw [checkpoint, if_pos (by omega)]

theorem checkpoint_final (p : Block) (w : ExpandedKey) :
    checkpoint p w 10 = finalRound (checkpoint p w 9) (roundKey w 10) := rfl

theorem encryptBlock_eq (p : Block) (w : ExpandedKey) : encryptBlock p w = checkpoint p w 10 := by
  simp [encryptBlock, encryptTrace]

theorem decryptFrom_succ (w : ExpandedKey) (i : Nat) (s : Block) :
    decryptFrom w (i + 1) s =
      decryptFrom w i (invSubBytes (invShiftRows (invMixColumns (addRoundKey s (roundKey w (i + 1)))))) := rfl

theorem flipBit_get (x : Block) (p i : Nat) (h : i < 16) :
    (flipBit x p)[i] = if i = p / 8 then x[i] ^^^ (1#8 <<< (p % 8)) else x[i] := by simp [flipBit]

theorem avalancheRecord_get (p : Block) (w : ExpandedKey) (pos : Nat) (target : Target) (i : Nat) (h : i < 11) :
    (avalancheRecord p w pos target)[i] =
      countChangedBits (checkpoint p w i) (perturbedCheckpoint p w pos target i) := by simp [avalancheRecord]

theorem avrOf_get (n : Vector Nat 11) (i : Nat) (h : i < 11) :
    (avrOf n)[i] = ⟨BitVec.ofNat 8 i, BitVec.ofNat 8 n[i]⟩ := by simp [avrOf]

end Sys2Proof.Machine
end

