-- ==== Sys2Proof/Laws/Decode.lean ====
section
/-! SUPPORT. The fields of a packed word, and the opcode map read both ways (R60, R63). -/

namespace Sys2Proof

/-- A bit of a packed word is a bit of the field it lies in. -/
theorem getLsbD_packWord (op a b c : Byte) (i : Nat) :
    (packWord op a b c).getLsbD i =
      if i < 8 then op.getLsbD i else if i < 16 then a.getLsbD (i - 8)
      else if i < 24 then b.getLsbD (i - 16) else c.getLsbD (i - 24) := by
  simp only [packWord, BitVec.getLsbD_append, Nat.sub_sub]
  split
  · rfl
  · simp only [show (i - 8 < 8) ↔ i < 16 by omega, show (i - (8 + 8) < 8) ↔ i < 24 by omega]

/-- A word with an address is the word whose B and C are the address's two bytes (R61). -/
theorem packAddrWord_eq (op a : Byte) (addr : Addr) :
    packAddrWord op a addr = packWord op a (addr.extractLsb' 0 8) (addr.extractLsb' 8 8) := by
  apply BitVec.eq_of_getLsbD_eq
  intro i hi
  rw [getLsbD_packWord]
  simp only [packAddrWord, BitVec.getLsbD_append, BitVec.getLsbD_extractLsb', Nat.sub_sub]
  by_cases h8 : i < 8
  · simp [h8]
  · by_cases h16 : i < 16
    · simp [h8, h16, show i - 8 < 8 by omega]
    · by_cases h24 : i < 24
      · simp [h8, h16, h24, show ¬ i - 8 < 8 by omega, show i - 16 < 8 by omega]
      · simp [h8, h16, h24, show ¬ i - 8 < 8 by omega, show i - 24 < 8 by omega,
          show 8 + (i - 24) = i - 16 by omega]

@[simp] theorem fieldOp_packWord (op a b c : Byte) : fieldOp (packWord op a b c) = op := by
  apply BitVec.eq_of_getLsbD_eq
  intro i hi
  rw [fieldOp, BitVec.getLsbD_extractLsb', getLsbD_packWord]
  simp [hi]

@[simp] theorem fieldA_packWord (op a b c : Byte) : fieldA (packWord op a b c) = a := by
  apply BitVec.eq_of_getLsbD_eq
  intro i hi
  rw [fieldA, BitVec.getLsbD_extractLsb', getLsbD_packWord]
  simp [hi, show ¬ 8 + i < 8 by omega, show 8 + i < 16 by omega]

@[simp] theorem fieldB_packWord (op a b c : Byte) : fieldB (packWord op a b c) = b := by
  apply BitVec.eq_of_getLsbD_eq
  intro i hi
  rw [fieldB, BitVec.getLsbD_extractLsb', getLsbD_packWord]
  simp [hi, show ¬ 16 + i < 8 by omega, show ¬ 16 + i < 16 by omega, show 16 + i < 24 by omega]

@[simp] theorem fieldC_packWord (op a b c : Byte) : fieldC (packWord op a b c) = c := by
  apply BitVec.eq_of_getLsbD_eq
  intro i hi
  rw [fieldC, BitVec.getLsbD_extractLsb', getLsbD_packWord]
  simp [hi, show ¬ 24 + i < 8 by omega, show ¬ 24 + i < 16 by omega, show ¬ 24 + i < 24 by omega]

/-- The packed fields of a word are the word. -/
theorem packWord_fields (w : Word) : packWord (fieldOp w) (fieldA w) (fieldB w) (fieldC w) = w := by
  apply BitVec.eq_of_getLsbD_eq
  intro i hi
  rw [getLsbD_packWord, fieldOp, fieldA, fieldB, fieldC]
  simp only [BitVec.getLsbD_extractLsb']
  split
  · simp_all
  · split
    · rw [show 8 + (i - 8) = i by omega]; simp; omega
    · split
      · rw [show 16 + (i - 16) = i by omega]; simp; omega
      · rw [show 24 + (i - 24) = i by omega]; simp; omega

@[simp] theorem fieldAddr_packAddrWord (op a : Byte) (addr : Addr) : fieldAddr (packAddrWord op a addr) = addr := by
  apply BitVec.eq_of_getLsbD_eq
  intro i hi
  simp only [fieldAddr, packAddrWord, BitVec.getLsbD_extractLsb', BitVec.getLsbD_append]
  simp [hi, show ¬ 16 + i < 8 by omega, show ¬ 16 + i - 8 < 8 by omega, show 16 + i - 8 - 8 = i by omega]

/-- The opcode map read forth and back. -/
@[simp] theorem opcodeOf_byte (o : Opcode) : opcodeOf o.byte = some o := by cases o <;> rfl

theorem opcodeOf_eq_some {b : Byte} {o : Opcode} (h : opcodeOf b = some o) : o.byte = b := by
  simpa using List.find?_some h

theorem srcOf_eq_some {b : Byte} {x : Buf} (h : srcOf b = some x) : x.code = b := by
  simpa using List.find?_some h

theorem dstOf_eq_some {b : Byte} {x : Buf} (h : dstOf b = some x) : x.code = b ∧ x ≠ .dout := by
  refine ⟨by simpa using List.find?_some h, ?_⟩
  have := List.mem_of_find?_eq_some h
  rintro rfl
  simp at this

theorem targetOf_eq_some {b : Byte} {x : Target} (h : targetOf b = some x) : x.code = b := by
  simpa using List.find?_some h

@[simp] theorem srcOf_code (x : Buf) : srcOf x.code = some x := by cases x <;> rfl
@[simp] theorem targetOf_code (x : Target) : targetOf x.code = some x := by cases x <;> rfl
theorem dstOf_code {x : Buf} (h : x ≠ .dout) : dstOf x.code = some x := by
  cases x <;> first | rfl | exact absurd rfl h

/-- The three steps of R64 in one line: a word decodes to an instruction exactly when its opcode is one of the 19, its
reserved fields are zero and its operands are in their sets. -/
theorem decode_eq_ok {w : Word} {i : Instr} :
    decode w = .ok i ↔
      ∃ o, opcodeOf (fieldOp w) = some o ∧ reservedClear o.format w = true ∧ operandsOf o w = some i := by
  unfold decode
  cases h : opcodeOf (fieldOp w) with
  | none => simp
  | some o =>
    by_cases hr : reservedClear o.format w = true
    · cases ho : operandsOf o w <;> simp [hr, ho]
    · simp [hr]

end Sys2Proof
end

