-- ==== Sys2Proof/Laws/Flags.lean ====
section
/-! SUPPORT. What setting a sticky bit does to STATUS, and the error codes (R29, R180, R184). -/

namespace Sys2Proof.Machine

theorem CmdError.bit_injective {e f : CmdError} (h : e.bit = f.bit) : e = f := by
  cases e <;> cases f <;> first | rfl | (exact absurd h (by decide))

theorem CmdError.code_injective {e f : CmdError} (h : e.code = f.code) : e = f := by
  cases e <;> cases f <;> first | rfl | (exact absurd h (by decide))

theorem CmdError.code_ne_zero (e : CmdError) : e.code ≠ 0 := by cases e <;> decide

theorem CmdError.code_le_five (e : CmdError) : e.code.toNat ≤ 5 := by cases e <;> decide

/-- Setting one sticky bit shows that error and keeps what the others showed. -/
theorem statusShows_setSticky (st : Byte) (e f : CmdError) :
    statusShows (setSticky st e) f = (statusShows st f || decide (f = e)) := by
  cases e <;> cases f <;> simp [statusShows, setSticky, CmdError.bit]

/-- Setting a sticky bit leaves the reserved bits alone. -/
theorem statusReserved_setSticky (st : Byte) (e : CmdError) :
    statusReserved (setSticky st e) = statusReserved st := by
  cases e <;> revert st <;> decide +kernel

@[simp] theorem okResponse_err (d : Byte) : (okResponse d).err = 0 := rfl
@[simp] theorem okResponse_data (d : Byte) : (okResponse d).data = d := rfl
@[simp] theorem errorResponse_err (e : CmdError) : (errorResponse e).err = e.code := rfl
@[simp] theorem errorResponse_data (e : CmdError) : (errorResponse e).data = 0x00 := rfl

end Sys2Proof.Machine
end

