-- ==== Sys2Proof/Laws/State.lean ====
section
/-! SUPPORT. One lemma per field per update of the state, each true by definition, so that no proof unfolds a record
update; and what each field holds at reset. -/

namespace Sys2Proof.Machine

@[simp] theorem State.setKeyin_keyin (s : State) (x : Block) : (s.setKeyin x).keyin = x := rfl
@[simp] theorem State.setKeyin_din (s : State) (x : Block) : (s.setKeyin x).din = s.din := rfl
@[simp] theorem State.setKeyin_ref (s : State) (x : Block) : (s.setKeyin x).ref = s.ref := rfl
@[simp] theorem State.setKeyin_dout (s : State) (x : Block) : (s.setKeyin x).dout = s.dout := rfl
@[simp] theorem State.setKeyin_res (s : State) (x : Block) : (s.setKeyin x).res = s.res := rfl
@[simp] theorem State.setKeyin_rk (s : State) (x : Block) : (s.setKeyin x).rk = s.rk := rfl
@[simp] theorem State.setKeyin_avr (s : State) (x : Block) : (s.setKeyin x).avr = s.avr := rfl
@[simp] theorem State.setKeyin_status (s : State) (x : Block) : (s.setKeyin x).status = s.status := rfl
@[simp] theorem State.setKeyin_pending (s : State) (x : Block) : (s.setKeyin x).pending = s.pending := rfl
@[simp] theorem State.setKeyin_responses (s : State) (x : Block) : (s.setKeyin x).responses = s.responses := rfl
@[simp] theorem State.setKeyin_resets (s : State) (x : Block) : (s.setKeyin x).resets = s.resets := rfl

@[simp] theorem State.setDin_keyin (s : State) (x : Block) : (s.setDin x).keyin = s.keyin := rfl
@[simp] theorem State.setDin_din (s : State) (x : Block) : (s.setDin x).din = x := rfl
@[simp] theorem State.setDin_ref (s : State) (x : Block) : (s.setDin x).ref = s.ref := rfl
@[simp] theorem State.setDin_dout (s : State) (x : Block) : (s.setDin x).dout = s.dout := rfl
@[simp] theorem State.setDin_res (s : State) (x : Block) : (s.setDin x).res = s.res := rfl
@[simp] theorem State.setDin_rk (s : State) (x : Block) : (s.setDin x).rk = s.rk := rfl
@[simp] theorem State.setDin_avr (s : State) (x : Block) : (s.setDin x).avr = s.avr := rfl
@[simp] theorem State.setDin_status (s : State) (x : Block) : (s.setDin x).status = s.status := rfl
@[simp] theorem State.setDin_pending (s : State) (x : Block) : (s.setDin x).pending = s.pending := rfl
@[simp] theorem State.setDin_responses (s : State) (x : Block) : (s.setDin x).responses = s.responses := rfl
@[simp] theorem State.setDin_resets (s : State) (x : Block) : (s.setDin x).resets = s.resets := rfl

@[simp] theorem State.setRef_keyin (s : State) (x : Block) : (s.setRef x).keyin = s.keyin := rfl
@[simp] theorem State.setRef_din (s : State) (x : Block) : (s.setRef x).din = s.din := rfl
@[simp] theorem State.setRef_ref (s : State) (x : Block) : (s.setRef x).ref = x := rfl
@[simp] theorem State.setRef_dout (s : State) (x : Block) : (s.setRef x).dout = s.dout := rfl
@[simp] theorem State.setRef_res (s : State) (x : Block) : (s.setRef x).res = s.res := rfl
@[simp] theorem State.setRef_rk (s : State) (x : Block) : (s.setRef x).rk = s.rk := rfl
@[simp] theorem State.setRef_avr (s : State) (x : Block) : (s.setRef x).avr = s.avr := rfl
@[simp] theorem State.setRef_status (s : State) (x : Block) : (s.setRef x).status = s.status := rfl
@[simp] theorem State.setRef_pending (s : State) (x : Block) : (s.setRef x).pending = s.pending := rfl
@[simp] theorem State.setRef_responses (s : State) (x : Block) : (s.setRef x).responses = s.responses := rfl
@[simp] theorem State.setRef_resets (s : State) (x : Block) : (s.setRef x).resets = s.resets := rfl

@[simp] theorem State.setDout_keyin (s : State) (x : Block) : (s.setDout x).keyin = s.keyin := rfl
@[simp] theorem State.setDout_din (s : State) (x : Block) : (s.setDout x).din = s.din := rfl
@[simp] theorem State.setDout_ref (s : State) (x : Block) : (s.setDout x).ref = s.ref := rfl
@[simp] theorem State.setDout_dout (s : State) (x : Block) : (s.setDout x).dout = x := rfl
@[simp] theorem State.setDout_res (s : State) (x : Block) : (s.setDout x).res = s.res := rfl
@[simp] theorem State.setDout_rk (s : State) (x : Block) : (s.setDout x).rk = s.rk := rfl
@[simp] theorem State.setDout_avr (s : State) (x : Block) : (s.setDout x).avr = s.avr := rfl
@[simp] theorem State.setDout_status (s : State) (x : Block) : (s.setDout x).status = s.status := rfl
@[simp] theorem State.setDout_pending (s : State) (x : Block) : (s.setDout x).pending = s.pending := rfl
@[simp] theorem State.setDout_responses (s : State) (x : Block) : (s.setDout x).responses = s.responses := rfl
@[simp] theorem State.setDout_resets (s : State) (x : Block) : (s.setDout x).resets = s.resets := rfl

@[simp] theorem State.setRes_keyin (s : State) (x : Byte) : (s.setRes x).keyin = s.keyin := rfl
@[simp] theorem State.setRes_din (s : State) (x : Byte) : (s.setRes x).din = s.din := rfl
@[simp] theorem State.setRes_ref (s : State) (x : Byte) : (s.setRes x).ref = s.ref := rfl
@[simp] theorem State.setRes_dout (s : State) (x : Byte) : (s.setRes x).dout = s.dout := rfl
@[simp] theorem State.setRes_res (s : State) (x : Byte) : (s.setRes x).res = x := rfl
@[simp] theorem State.setRes_rk (s : State) (x : Byte) : (s.setRes x).rk = s.rk := rfl
@[simp] theorem State.setRes_avr (s : State) (x : Byte) : (s.setRes x).avr = s.avr := rfl
@[simp] theorem State.setRes_status (s : State) (x : Byte) : (s.setRes x).status = s.status := rfl
@[simp] theorem State.setRes_pending (s : State) (x : Byte) : (s.setRes x).pending = s.pending := rfl
@[simp] theorem State.setRes_responses (s : State) (x : Byte) : (s.setRes x).responses = s.responses := rfl
@[simp] theorem State.setRes_resets (s : State) (x : Byte) : (s.setRes x).resets = s.resets := rfl

@[simp] theorem State.setRk_keyin (s : State) (x : ExpandedKey) : (s.setRk x).keyin = s.keyin := rfl
@[simp] theorem State.setRk_din (s : State) (x : ExpandedKey) : (s.setRk x).din = s.din := rfl
@[simp] theorem State.setRk_ref (s : State) (x : ExpandedKey) : (s.setRk x).ref = s.ref := rfl
@[simp] theorem State.setRk_dout (s : State) (x : ExpandedKey) : (s.setRk x).dout = s.dout := rfl
@[simp] theorem State.setRk_res (s : State) (x : ExpandedKey) : (s.setRk x).res = s.res := rfl
@[simp] theorem State.setRk_rk (s : State) (x : ExpandedKey) : (s.setRk x).rk = x := rfl
@[simp] theorem State.setRk_avr (s : State) (x : ExpandedKey) : (s.setRk x).avr = s.avr := rfl
@[simp] theorem State.setRk_status (s : State) (x : ExpandedKey) : (s.setRk x).status = s.status := rfl
@[simp] theorem State.setRk_pending (s : State) (x : ExpandedKey) : (s.setRk x).pending = s.pending := rfl
@[simp] theorem State.setRk_responses (s : State) (x : ExpandedKey) : (s.setRk x).responses = s.responses := rfl
@[simp] theorem State.setRk_resets (s : State) (x : ExpandedKey) : (s.setRk x).resets = s.resets := rfl

@[simp] theorem State.setAvr_keyin (s : State) (x : Vector AvrEntry 11) : (s.setAvr x).keyin = s.keyin := rfl
@[simp] theorem State.setAvr_din (s : State) (x : Vector AvrEntry 11) : (s.setAvr x).din = s.din := rfl
@[simp] theorem State.setAvr_ref (s : State) (x : Vector AvrEntry 11) : (s.setAvr x).ref = s.ref := rfl
@[simp] theorem State.setAvr_dout (s : State) (x : Vector AvrEntry 11) : (s.setAvr x).dout = s.dout := rfl
@[simp] theorem State.setAvr_res (s : State) (x : Vector AvrEntry 11) : (s.setAvr x).res = s.res := rfl
@[simp] theorem State.setAvr_rk (s : State) (x : Vector AvrEntry 11) : (s.setAvr x).rk = s.rk := rfl
@[simp] theorem State.setAvr_avr (s : State) (x : Vector AvrEntry 11) : (s.setAvr x).avr = x := rfl
@[simp] theorem State.setAvr_status (s : State) (x : Vector AvrEntry 11) : (s.setAvr x).status = s.status := rfl
@[simp] theorem State.setAvr_pending (s : State) (x : Vector AvrEntry 11) : (s.setAvr x).pending = s.pending := rfl
@[simp] theorem State.setAvr_responses (s : State) (x : Vector AvrEntry 11) : (s.setAvr x).responses = s.responses := rfl
@[simp] theorem State.setAvr_resets (s : State) (x : Vector AvrEntry 11) : (s.setAvr x).resets = s.resets := rfl

@[simp] theorem State.setStatus_keyin (s : State) (x : Byte) : (s.setStatus x).keyin = s.keyin := rfl
@[simp] theorem State.setStatus_din (s : State) (x : Byte) : (s.setStatus x).din = s.din := rfl
@[simp] theorem State.setStatus_ref (s : State) (x : Byte) : (s.setStatus x).ref = s.ref := rfl
@[simp] theorem State.setStatus_dout (s : State) (x : Byte) : (s.setStatus x).dout = s.dout := rfl
@[simp] theorem State.setStatus_res (s : State) (x : Byte) : (s.setStatus x).res = s.res := rfl
@[simp] theorem State.setStatus_rk (s : State) (x : Byte) : (s.setStatus x).rk = s.rk := rfl
@[simp] theorem State.setStatus_avr (s : State) (x : Byte) : (s.setStatus x).avr = s.avr := rfl
@[simp] theorem State.setStatus_status (s : State) (x : Byte) : (s.setStatus x).status = x := rfl
@[simp] theorem State.setStatus_pending (s : State) (x : Byte) : (s.setStatus x).pending = s.pending := rfl
@[simp] theorem State.setStatus_responses (s : State) (x : Byte) : (s.setStatus x).responses = s.responses := rfl
@[simp] theorem State.setStatus_resets (s : State) (x : Byte) : (s.setStatus x).resets = s.resets := rfl

@[simp] theorem State.setPending_keyin (s : State) (x : List HostEvent) : (s.setPending x).keyin = s.keyin := rfl
@[simp] theorem State.setPending_din (s : State) (x : List HostEvent) : (s.setPending x).din = s.din := rfl
@[simp] theorem State.setPending_ref (s : State) (x : List HostEvent) : (s.setPending x).ref = s.ref := rfl
@[simp] theorem State.setPending_dout (s : State) (x : List HostEvent) : (s.setPending x).dout = s.dout := rfl
@[simp] theorem State.setPending_res (s : State) (x : List HostEvent) : (s.setPending x).res = s.res := rfl
@[simp] theorem State.setPending_rk (s : State) (x : List HostEvent) : (s.setPending x).rk = s.rk := rfl
@[simp] theorem State.setPending_avr (s : State) (x : List HostEvent) : (s.setPending x).avr = s.avr := rfl
@[simp] theorem State.setPending_status (s : State) (x : List HostEvent) : (s.setPending x).status = s.status := rfl
@[simp] theorem State.setPending_pending (s : State) (x : List HostEvent) : (s.setPending x).pending = x := rfl
@[simp] theorem State.setPending_responses (s : State) (x : List HostEvent) : (s.setPending x).responses = s.responses := rfl
@[simp] theorem State.setPending_resets (s : State) (x : List HostEvent) : (s.setPending x).resets = s.resets := rfl

@[simp] theorem State.respond_keyin (s : State) (r : Response) : (s.respond r).keyin = s.keyin := rfl
@[simp] theorem State.respond_din (s : State) (r : Response) : (s.respond r).din = s.din := rfl
@[simp] theorem State.respond_ref (s : State) (r : Response) : (s.respond r).ref = s.ref := rfl
@[simp] theorem State.respond_dout (s : State) (r : Response) : (s.respond r).dout = s.dout := rfl
@[simp] theorem State.respond_res (s : State) (r : Response) : (s.respond r).res = s.res := rfl
@[simp] theorem State.respond_rk (s : State) (r : Response) : (s.respond r).rk = s.rk := rfl
@[simp] theorem State.respond_avr (s : State) (r : Response) : (s.respond r).avr = s.avr := rfl
@[simp] theorem State.respond_status (s : State) (r : Response) : (s.respond r).status = s.status := rfl
@[simp] theorem State.respond_pending (s : State) (r : Response) : (s.respond r).pending = s.pending := rfl
@[simp] theorem State.respond_responses (s : State) (r : Response) : (s.respond r).responses = s.responses ++ [r] := rfl
@[simp] theorem State.respond_resets (s : State) (r : Response) : (s.respond r).resets = s.resets := rfl

@[simp] theorem State.setPending_self (s : State) : s.setPending s.pending = s := rfl

@[simp] theorem State.setPending_setPending (s : State) (l m : List HostEvent) :
    (s.setPending l).setPending m = s.setPending m := rfl

@[simp] theorem State.atReset_status (n : Nat) (l : List HostEvent) : (State.atReset n l).status = 0x00 := rfl
@[simp] theorem State.atReset_pending (n : Nat) (l : List HostEvent) : (State.atReset n l).pending = l := rfl
@[simp] theorem State.atReset_responses (n : Nat) (l : List HostEvent) : (State.atReset n l).responses = [] := rfl
@[simp] theorem State.atReset_resets (n : Nat) (l : List HostEvent) : (State.atReset n l).resets = n := rfl

end Sys2Proof.Machine
end

