-- ==== Sys2Proof/Laws/Ops.lean ====
section
/-! SUPPORT. Everything the shared operations can do: raising and completing, the address map read both ways, a byte
write by location, and the reset transition. -/

namespace Sys2Proof.Machine

/-- `raise` answers one next state: the sticky bit set and the error response given. -/
theorem raise_eq (e : CmdError) (s : State) :
    raise e s = .next ((s.setStatus (setSticky s.status e)).respond (errorResponse e)) := rfl

theorem completeWith_eq (d : Byte) (s : State) : completeWith d s = .next (s.respond (okResponse d)) := rfl

theorem complete_eq (s : State) : complete s = .next (s.respond (okResponse 0x00)) := rfl

/-- The map names every location at its own address. -/
theorem locate_address (l : Location) : locate l.address = some l := by
  cases l with
  | keyin i => revert i; decide
  | din i => revert i; decide
  | ref i => revert i; decide
  | dout i => revert i; decide
  | avrRound i => revert i; decide
  | avrCount i => revert i; decide
  | res => rfl
  | status => rfl
  | rk i => revert i; decide +kernel

/-- A mapped address is the address of the location it names. -/
theorem address_of_locate {a : Addr} {l : Location} (h : locate a = some l) : l.address = a := by
  apply BitVec.eq_of_toNat_eq
  have ha := a.isLt
  unfold locate at h
  repeat' split at h
  all_goals first
    | (cases h; simp [Location.address] <;> omega)
    | (cases h)

/-- A byte written at a location is read back there, every other location and every field outside the buffer space is
as before. -/
theorem writeAt_spec {l : Location} {v : Byte} {s t : State} (h : writeAt l v s = some t) :
    readAt l t = v ∧ (∀ m, m ≠ l → readAt m t = readAt m s) ∧
      t.pending = s.pending ∧ t.responses = s.responses ∧ t.resets = s.resets := by
  cases l <;> simp only [writeAt, Option.some.injEq, reduceCtorEq] at h <;> subst h <;>
    refine ⟨by simp [readAt], ?_, rfl, rfl, rfl⟩ <;> intro m hm <;> cases m <;>
    first
      | rfl
      | (simp only [ne_eq, Location.keyin.injEq, Location.din.injEq, Location.ref.injEq, Location.rk.injEq] at hm
         simp only [readAt, State.setKeyin_keyin, State.setDin_din, State.setRef_ref, State.setRk_rk]
         exact Vector.getElem_set_ne _ _ (fun e => hm (Fin.ext e.symm)))

/-- The host may write exactly KEYIN, DIN, REF and RK (R41). -/
theorem writeAt_isSome (l : Location) (v : Byte) (s : State) :
    (writeAt l v s).isSome = match l with
      | .keyin _ | .din _ | .ref _ | .rk _ => true
      | .dout _ | .avrRound _ | .avrCount _ | .res | .status => false := by
  cases l <;> rfl

/-- A write that answers has found a location and written it. -/
theorem memWrite_eq_some {a : Addr} {v : Byte} {s t : State} (h : memWrite a v s = some t) :
    ∃ l, locate a = some l ∧ writeAt l v s = some t := by
  simpa [memWrite, Option.bind_eq_some_iff] using h

/-- A buffer write replaces that buffer and nothing else. -/
theorem writeBuffer_eq_some {b : Buf} {x : Block} {s t : State} (h : writeBuffer b x s = some t) :
    readBuffer b t = x ∧ (∀ c, c ≠ b → readBuffer c t = readBuffer c s) ∧ t.res = s.res ∧ t.rk = s.rk ∧
      t.avr = s.avr ∧ t.status = s.status ∧ t.pending = s.pending ∧ t.responses = s.responses ∧
      t.resets = s.resets := by
  cases b <;> simp only [writeBuffer, Option.some.injEq, reduceCtorEq] at h <;> subst h <;>
    refine ⟨rfl, ?_, rfl, rfl, rfl, rfl, rfl, rfl, rfl⟩ <;> intro c hc <;> cases c <;>
    first | rfl | exact absurd rfl hc

/-- What a reset leaves of the state before it: the events still to come, and the reset counter one higher. -/
theorem resetCore_eq (s : State) : resetCore s = State.atReset (s.resets + 1) s.pending := rfl

end Sys2Proof.Machine
end

