-- ==== Sys2Proof/Laws/PerInstr.lean ====
section
/-! SUPPORT. One statement about every command as syntax, one lemma per constructor: the word of a command satisfies
the mask and match columns of its row in the opcode table (R63). -/

/-- The encoded word meets its row's mask and match. -/
def Sys2Proof.Laws.Row.Statement (i : Sys2Proof.Instr) : Prop :=
  Sys2Proof.encode i &&& i.opcode.mask = i.opcode.pattern

namespace Sys2Proof

/-- A packed word under a packed mask is packed field by field. -/
theorem packWord_and (op a b c op' a' b' c' : Byte) :
    packWord op a b c &&& packWord op' a' b' c' = packWord (op &&& op') (a &&& a') (b &&& b') (c &&& c') := by
  apply BitVec.eq_of_getLsbD_eq
  intro i hi
  simp only [BitVec.getLsbD_and, getLsbD_packWord]
  split
  · rfl
  · split
    · rfl
    · split <;> rfl

theorem byte_and_all (x : Byte) : x &&& 0xFF = x := by revert x; decide

theorem byte_and_zero (x : Byte) : x &&& 0x00 = 0x00 := by revert x; decide

end Sys2Proof

theorem Sys2Proof.Laws.Row.expandKey (len : Sys2Proof.Byte) : Sys2Proof.Laws.Row.Statement (.expandKey len) := by
  show Sys2Proof.encode (.expandKey len) &&& Sys2Proof.Opcode.expandKey.mask = Sys2Proof.Opcode.expandKey.pattern
  rw [Sys2Proof.encode, show Sys2Proof.Opcode.expandKey.mask = Sys2Proof.packWord 0xFF 0xFF 0xFF 0x00 by decide,
    Sys2Proof.packWord_and]
  simp only [Sys2Proof.byte_and_all, Sys2Proof.byte_and_zero]
  decide

theorem Sys2Proof.Laws.Row.encrypt (len : Sys2Proof.Byte) : Sys2Proof.Laws.Row.Statement (.encrypt len) := by
  show Sys2Proof.encode (.encrypt len) &&& Sys2Proof.Opcode.encrypt.mask = Sys2Proof.Opcode.encrypt.pattern
  rw [Sys2Proof.encode, show Sys2Proof.Opcode.encrypt.mask = Sys2Proof.packWord 0xFF 0xFF 0xFF 0x00 by decide,
    Sys2Proof.packWord_and]
  simp only [Sys2Proof.byte_and_all, Sys2Proof.byte_and_zero]
  decide

theorem Sys2Proof.Laws.Row.decrypt (len : Sys2Proof.Byte) : Sys2Proof.Laws.Row.Statement (.decrypt len) := by
  show Sys2Proof.encode (.decrypt len) &&& Sys2Proof.Opcode.decrypt.mask = Sys2Proof.Opcode.decrypt.pattern
  rw [Sys2Proof.encode, show Sys2Proof.Opcode.decrypt.mask = Sys2Proof.packWord 0xFF 0xFF 0xFF 0x00 by decide,
    Sys2Proof.packWord_and]
  simp only [Sys2Proof.byte_and_all, Sys2Proof.byte_and_zero]
  decide

theorem Sys2Proof.Laws.Row.avalanche (pos : Sys2Proof.Byte) (target : Sys2Proof.Target) (len : Sys2Proof.Byte) : Sys2Proof.Laws.Row.Statement (.avalanche pos target len) := by
  show Sys2Proof.encode (.avalanche pos target len) &&& Sys2Proof.Opcode.avalanche.mask = Sys2Proof.Opcode.avalanche.pattern
  rw [Sys2Proof.encode, show Sys2Proof.Opcode.avalanche.mask = Sys2Proof.packWord 0xFF 0x00 0xFE 0x00 by decide,
    Sys2Proof.packWord_and]
  simp only [Sys2Proof.byte_and_all, Sys2Proof.byte_and_zero]
  cases target <;> decide

theorem Sys2Proof.Laws.Row.sbox (b : Sys2Proof.Byte) : Sys2Proof.Laws.Row.Statement (.sbox b) := by
  show Sys2Proof.encode (.sbox b) &&& Sys2Proof.Opcode.sbox.mask = Sys2Proof.Opcode.sbox.pattern
  rw [Sys2Proof.encode, show Sys2Proof.Opcode.sbox.mask = Sys2Proof.packWord 0xFF 0x00 0xFF 0xFF by decide,
    Sys2Proof.packWord_and]
  simp only [Sys2Proof.byte_and_all, Sys2Proof.byte_and_zero]
  decide

theorem Sys2Proof.Laws.Row.invSbox (b : Sys2Proof.Byte) : Sys2Proof.Laws.Row.Statement (.invSbox b) := by
  show Sys2Proof.encode (.invSbox b) &&& Sys2Proof.Opcode.invSbox.mask = Sys2Proof.Opcode.invSbox.pattern
  rw [Sys2Proof.encode, show Sys2Proof.Opcode.invSbox.mask = Sys2Proof.packWord 0xFF 0x00 0xFF 0xFF by decide,
    Sys2Proof.packWord_and]
  simp only [Sys2Proof.byte_and_all, Sys2Proof.byte_and_zero]
  decide

theorem Sys2Proof.Laws.Row.gfMul (c : Sys2Proof.Byte) (b : Sys2Proof.Byte) : Sys2Proof.Laws.Row.Statement (.gfMul c b) := by
  show Sys2Proof.encode (.gfMul c b) &&& Sys2Proof.Opcode.gfMul.mask = Sys2Proof.Opcode.gfMul.pattern
  rw [Sys2Proof.encode, show Sys2Proof.Opcode.gfMul.mask = Sys2Proof.packWord 0xFF 0x00 0x00 0xFF by decide,
    Sys2Proof.packWord_and]
  simp only [Sys2Proof.byte_and_all, Sys2Proof.byte_and_zero]
  decide

theorem Sys2Proof.Laws.Row.hamming : Sys2Proof.Laws.Row.Statement (.hamming) := by
  show Sys2Proof.encode .hamming &&& Sys2Proof.Opcode.hamming.mask = Sys2Proof.Opcode.hamming.pattern
  decide

theorem Sys2Proof.Laws.Row.flipBit (pos : Sys2Proof.Byte) : Sys2Proof.Laws.Row.Statement (.flipBit pos) := by
  show Sys2Proof.encode (.flipBit pos) &&& Sys2Proof.Opcode.flipBit.mask = Sys2Proof.Opcode.flipBit.pattern
  rw [Sys2Proof.encode, show Sys2Proof.Opcode.flipBit.mask = Sys2Proof.packWord 0xFF 0x00 0xFF 0xFF by decide,
    Sys2Proof.packWord_and]
  simp only [Sys2Proof.byte_and_all, Sys2Proof.byte_and_zero]
  decide

theorem Sys2Proof.Laws.Row.subBytes : Sys2Proof.Laws.Row.Statement (.subBytes) := by
  show Sys2Proof.encode .subBytes &&& Sys2Proof.Opcode.subBytes.mask = Sys2Proof.Opcode.subBytes.pattern
  decide

theorem Sys2Proof.Laws.Row.shiftRows : Sys2Proof.Laws.Row.Statement (.shiftRows) := by
  show Sys2Proof.encode .shiftRows &&& Sys2Proof.Opcode.shiftRows.mask = Sys2Proof.Opcode.shiftRows.pattern
  decide

theorem Sys2Proof.Laws.Row.mixColumns : Sys2Proof.Laws.Row.Statement (.mixColumns) := by
  show Sys2Proof.encode .mixColumns &&& Sys2Proof.Opcode.mixColumns.mask = Sys2Proof.Opcode.mixColumns.pattern
  decide

theorem Sys2Proof.Laws.Row.addRoundKey (r : Sys2Proof.Byte) : Sys2Proof.Laws.Row.Statement (.addRoundKey r) := by
  show Sys2Proof.encode (.addRoundKey r) &&& Sys2Proof.Opcode.addRoundKey.mask = Sys2Proof.Opcode.addRoundKey.pattern
  rw [Sys2Proof.encode, show Sys2Proof.Opcode.addRoundKey.mask = Sys2Proof.packWord 0xFF 0x00 0xFF 0xFF by decide,
    Sys2Proof.packWord_and]
  simp only [Sys2Proof.byte_and_all, Sys2Proof.byte_and_zero]
  decide

theorem Sys2Proof.Laws.Row.invSubBytes : Sys2Proof.Laws.Row.Statement (.invSubBytes) := by
  show Sys2Proof.encode .invSubBytes &&& Sys2Proof.Opcode.invSubBytes.mask = Sys2Proof.Opcode.invSubBytes.pattern
  decide

theorem Sys2Proof.Laws.Row.invShiftRows : Sys2Proof.Laws.Row.Statement (.invShiftRows) := by
  show Sys2Proof.encode .invShiftRows &&& Sys2Proof.Opcode.invShiftRows.mask = Sys2Proof.Opcode.invShiftRows.pattern
  decide

theorem Sys2Proof.Laws.Row.invMixColumns : Sys2Proof.Laws.Row.Statement (.invMixColumns) := by
  show Sys2Proof.encode .invMixColumns &&& Sys2Proof.Opcode.invMixColumns.mask = Sys2Proof.Opcode.invMixColumns.pattern
  decide

theorem Sys2Proof.Laws.Row.wrb (addr : Sys2Proof.Addr) (data : Sys2Proof.Byte) : Sys2Proof.Laws.Row.Statement (.wrb addr data) := by
  show Sys2Proof.encode (.wrb addr data) &&& Sys2Proof.Opcode.wrb.mask = Sys2Proof.Opcode.wrb.pattern
  rw [Sys2Proof.encode, Sys2Proof.packAddrWord_eq, show Sys2Proof.Opcode.wrb.mask = Sys2Proof.packWord 0xFF 0x00 0x00 0x00 by decide,
    Sys2Proof.packWord_and]
  simp only [Sys2Proof.byte_and_all, Sys2Proof.byte_and_zero]
  decide

theorem Sys2Proof.Laws.Row.rdb (addr : Sys2Proof.Addr) : Sys2Proof.Laws.Row.Statement (.rdb addr) := by
  show Sys2Proof.encode (.rdb addr) &&& Sys2Proof.Opcode.rdb.mask = Sys2Proof.Opcode.rdb.pattern
  rw [Sys2Proof.encode, Sys2Proof.packAddrWord_eq, show Sys2Proof.Opcode.rdb.mask = Sys2Proof.packWord 0xFF 0xFF 0x00 0x00 by decide,
    Sys2Proof.packWord_and]
  simp only [Sys2Proof.byte_and_all, Sys2Proof.byte_and_zero]
  decide

theorem Sys2Proof.Laws.Row.copy (dst : Sys2Proof.Buf) (src : Sys2Proof.Buf) : Sys2Proof.Laws.Row.Statement (.copy dst src) := by
  show Sys2Proof.encode (.copy dst src) &&& Sys2Proof.Opcode.copy.mask = Sys2Proof.Opcode.copy.pattern
  cases dst <;> cases src <;> decide
end

