-- ==== Sys2Proof/Laws/Step.lean ====
section
/-! SUPPORT. Everything one step can do (R64, R73, R194, R200, R201). -/

namespace Sys2Proof.Machine

theorem step_presentWord (w : Word) (s : State) : step (presentWord w s) = executeWord w s := rfl

theorem executeWord_ok {w : Word} {i : Instr} (h : decode w = .ok i) (s : State) : executeWord w s = exec i s := by
  rw [executeWord, h]

theorem executeWord_error {w : Word} {e : IllegalWord} (h : decode w = .error e) (s : State) :
    executeWord w s = raise .illegalCommand s := by
  rw [executeWord, h]

/-- If a step answers a next state, the core was idle, or a command word was executed, or a reset took place. -/
theorem step_cases {s t : State} (h : step s = .next t) :
    (s.pending = [] ∧ t = s) ∨
    (∃ w rest, s.pending = .command w :: rest ∧ executeWord w (s.setPending rest) = .next t) ∨
    (∃ rest, (s.pending = .reset :: rest ∨ ∃ w, s.pending = .resetDuring w :: rest) ∧
      t = State.atReset (s.resets + 1) rest) := by
  rw [step, serveNext] at h
  split at h
  · next hp => cases h; exact .inl ⟨hp, rfl⟩
  · next e rest hp =>
    cases e with
    | command w => exact .inr (.inl ⟨w, rest, hp, h⟩)
    | reset => exact .inr (.inr ⟨rest, .inl hp, (Host.Outcome.next.inj h).symm⟩)
    | resetDuring w => exact .inr (.inr ⟨rest, .inr ⟨w, hp⟩, (Host.Outcome.next.inj h).symm⟩)
    | handshakeViolation => cases h

/-- What a command may answer in a state: it raises an error, or it writes what it writes and responds, STATUS and the
model's own fields being as they were. -/
def Answers (s : State) (r : Result) : Prop :=
  (∃ e, r = raise e s) ∨
    ∃ (t : State) (d : Byte), r = .next (t.respond (okResponse d)) ∧ t.status = s.status ∧ t.pending = s.pending ∧
      t.responses = s.responses ∧ t.resets = s.resets

theorem answers_raise (e : CmdError) (s : State) : Answers s (raise e s) := .inl ⟨e, rfl⟩

theorem answers_setRes (s : State) (b : Byte) : Answers s (complete (s.setRes b)) :=
  .inr ⟨_, _, complete_eq _, rfl, rfl, rfl, rfl⟩

theorem answers_setDout (s : State) (x : Block) : Answers s (complete (s.setDout x)) :=
  .inr ⟨_, _, complete_eq _, rfl, rfl, rfl, rfl⟩

theorem answers_setRk (s : State) (w : ExpandedKey) : Answers s (complete (s.setRk w)) :=
  .inr ⟨_, _, complete_eq _, rfl, rfl, rfl, rfl⟩

theorem answers_setAvr (s : State) (v : Vector AvrEntry 11) : Answers s (complete (s.setAvr v)) :=
  .inr ⟨_, _, complete_eq _, rfl, rfl, rfl, rfl⟩

theorem answers_ite {s : State} {c : Prop} [Decidable c] {r q : Result} (hr : Answers s r) (hq : Answers s q) :
    Answers s (if c then r else q) := by
  split
  · exact hr
  · exact hq

theorem answers_wrb (addr : Addr) (data : Byte) (s : State) : Answers s (execWrb addr data s) := by
  rw [execWrb]
  split
  · next t ht =>
    obtain ⟨l, -, hw⟩ := memWrite_eq_some ht
    refine .inr ⟨t, _, complete_eq t, ?_, (writeAt_spec hw).2.2⟩
    cases l <;> simp only [writeAt, Option.some.injEq, reduceCtorEq] at hw <;> subst hw <;> rfl
  · exact answers_raise _ _

theorem answers_rdb (addr : Addr) (s : State) : Answers s (execRdb addr s) := by
  rw [execRdb]
  split
  · exact .inr ⟨s, _, completeWith_eq _ _, rfl, rfl, rfl, rfl⟩
  · exact answers_raise _ _

theorem answers_copy (dst src : Buf) (s : State) : Answers s (execCopy dst src s) := by
  rw [execCopy]
  split
  · next t ht => exact .inr ⟨t, _, complete_eq t, (writeBuffer_eq_some ht).2.2.2.2.2⟩
  · exact answers_raise _ _

/-- Every command answers in one of the two ways, whatever its operands and the state. -/
theorem exec_answers (i : Instr) (s : State) : Answers s (exec i s) := by
  cases i with
  | expandKey len => exact answers_ite (answers_setRk _ _) (answers_raise _ _)
  | encrypt len => exact answers_ite (answers_setDout _ _) (answers_raise _ _)
  | decrypt len => exact answers_ite (answers_setDout _ _) (answers_raise _ _)
  | avalanche pos target len =>
    exact answers_ite (answers_ite (answers_setAvr _ _) (answers_raise _ _)) (answers_raise _ _)
  | sbox b => exact answers_setRes _ _
  | invSbox b => exact answers_setRes _ _
  | gfMul c b => exact answers_setRes _ _
  | hamming => exact answers_setRes _ _
  | flipBit pos => exact answers_ite (answers_setDout _ _) (answers_raise _ _)
  | subBytes => exact answers_setDout _ _
  | shiftRows => exact answers_setDout _ _
  | mixColumns => exact answers_setDout _ _
  | addRoundKey r => exact answers_ite (answers_setDout _ _) (answers_raise _ _)
  | invSubBytes => exact answers_setDout _ _
  | invShiftRows => exact answers_setDout _ _
  | invMixColumns => exact answers_setDout _ _
  | wrb addr data => exact answers_wrb addr data s
  | rdb addr => exact answers_rdb addr s
  | copy dst src => exact answers_copy dst src s

/-- An accepted word is answered in one of the two ways, whether it is a command or not. -/
theorem executeWord_answers (w : Word) (s : State) : Answers s (executeWord w s) := by
  rw [executeWord]
  split
  · exact exec_answers _ _
  · exact answers_raise _ _

end Sys2Proof.Machine
end

