-- ==== Sys2Proof/Tests/Slice0.lean ====
section
/-! SUPPORT. Tests of one step each, with the results that 95_test_vectors.md and the worked examples of the rules print;
the refusals of the well-formedness check; every constructor's word written out bit by bit from R60 to R63; and, for
each statement with hypotheses, a state and operands that meet them. -/

namespace Sys2Proof.Tests

-- One test at a time: each one evaluates on a thread of its own, with a large stack.
set_option Elab.async false

open Sys2Proof Sys2Proof.Machine

/-! ## A small state -/

/-- The eleven round keys of vector K1, as 95_test_vectors.md prints them. -/
def k1Rows : List Block :=
  [hexBlock 0x000102030405060708090a0b0c0d0e0f, hexBlock 0xd6aa74fdd2af72fadaa678f1d6ab76fe,
   hexBlock 0xb692cf0b643dbdf1be9bc5006830b3fe, hexBlock 0xb6ff744ed2c2c9bf6c590cbf0469bf41,
   hexBlock 0x47f7f7bc95353e03f96c32bcfd058dfd, hexBlock 0x3caaa3e8a99f9deb50f3af57adf622aa,
   hexBlock 0x5e390f7df7a69296a7553dc10aa31f6b, hexBlock 0x14f9701ae35fe28c440adf4d4ea9c026,
   hexBlock 0x47438735a41c65b9e016baf4aebf7ad2, hexBlock 0x549932d1f08557681093ed9cbe2c974e,
   hexBlock 0x13111d7fe3944a17f307a78b4d2b30c5]

def k1 : ExpandedKey := Vector.ofFn fun i => (k1Rows.getD (i.val / 16) (hexBlock 0))[i.val % 16]

/-- A state with a key, a block in DIN, vector K1 in RK and one response given. -/
def stateWith (din : Nat) : State where
  keyin := hexBlock 0x000102030405060708090a0b0c0d0e0f
  din := hexBlock din
  ref := hexBlock 0x000102030405060708090a0b0c0d0e0f
  dout := hexBlock 0x69c4e0d86a7b0430d8cdb78070b4c55a
  res := 0x07
  rk := k1
  avr := Vector.ofFn fun i => ⟨BitVec.ofNat 8 i.val, BitVec.ofNat 8 (100 + i.val)⟩
  status := 0x00
  pending := []
  responses := [⟨0, 0x00⟩]
  resets := 0

def plain : State := stateWith 0x00112233445566778899aabbccddeeff

/-- What a step on a word leaves in a part of the state. -/
def after {α : Type} (w : Word) (s : State) (f : State → α) : Option α :=
  match step (presentWord w s) with
  | .next t => some (f t)
  | .fault _ => none
  | .refused _ => none

/-- The last response and STATUS. -/
def answer (t : State) : Option Response × Byte := (t.responses.getLast?, t.status)

/-! ## Well-formedness: an ill-formed term for each check (R67) -/

theorem test_wellFormed_addRoundKey_11 : Instr.wellFormed (.addRoundKey 11) = false := by decide
theorem test_wellFormed_addRoundKey_10 : Instr.wellFormed (.addRoundKey 10) = true := by decide
theorem test_wellFormed_copy_to_dout : Instr.wellFormed (.copy .dout .din) = false := by decide
theorem test_wellFormed_copy_from_dout : Instr.wellFormed (.copy .din .dout) = true := by decide

/-! ## Decoding: bits 31:24 C, 23:16 B, 15:8 A, 7:0 OP (R60 to R63) -/

theorem test_decode_expandKey : decode 0b00010000000000000000000000000001 = .ok (.expandKey 16) := by decide
theorem test_decode_encrypt : decode 0b00010001000000000000000000000010 = .ok (.encrypt 17) := by decide
theorem test_decode_decrypt : decode 0b00001111000000000000000000000011 = .ok (.decrypt 15) := by decide
theorem test_decode_avalanche : decode 0b00010000000000010000010100000100 = .ok (.avalanche 5 .key 16) := by decide
theorem test_decode_sbox : decode 0b00000000000000000101001100010000 = .ok (.sbox 0x53) := by decide
theorem test_decode_invSbox : decode 0b00000000000000001110110100010001 = .ok (.invSbox 0xED) := by decide
theorem test_decode_gfMul : decode 0b00000000000100110101011100010010 = .ok (.gfMul 0x13 0x57) := by decide
theorem test_decode_hamming : decode 0b00000000000000000000000000010011 = .ok .hamming := by decide
theorem test_decode_flipBit : decode 0b00000000000000000111111100010100 = .ok (.flipBit 127) := by decide
theorem test_decode_subBytes : decode 0b00000000000000000000000000100000 = .ok .subBytes := by decide
theorem test_decode_shiftRows : decode 0b00000000000000000000000000100001 = .ok .shiftRows := by decide
theorem test_decode_mixColumns : decode 0b00000000000000000000000000100010 = .ok .mixColumns := by decide
theorem test_decode_addRoundKey : decode 0b00000000000000000000101000100011 = .ok (.addRoundKey 10) := by decide
theorem test_decode_invSubBytes : decode 0b00000000000000000000000000101000 = .ok .invSubBytes := by decide
theorem test_decode_invShiftRows : decode 0b00000000000000000000000000101001 = .ok .invShiftRows := by decide
theorem test_decode_invMixColumns : decode 0b00000000000000000000000000101010 = .ok .invMixColumns := by decide
theorem test_decode_wrb : decode 0b00000001101011111010011000110000 = .ok (.wrb 0x01AF 0xA6) := by decide
theorem test_decode_rdb : decode 0b00000000001100000000000000110001 = .ok (.rdb 0x0030) := by decide
theorem test_decode_copy : decode 0b00000000000000110000000100110010 = .ok (.copy .din .dout) := by decide

theorem test_decode_rejects_by_name :
    decode 0x00000000 = .error .undefinedOpcode ∧ decode 0xFFFFFFFF = .error .undefinedOpcode ∧
    decode 0x00300131 = .error .reservedField ∧ decode 0x01030132 = .error .reservedField ∧
    decode 0x00000B23 = .error .operandOutOfSet ∧ decode 0x00010332 = .error .operandOutOfSet ∧
    decode 0x00040132 = .error .operandOutOfSet ∧ decode 0x10028004 = .error .operandOutOfSet := by decide

theorem test_decodeTableWord : decodeTableWord 32 0x10010504 = some (.avalanche 5 .key 16) := by decide

/-! ## Block commands (vectors K1, K5, E1, D1, A1, A9): the value, and the response of the step -/

/-- The block of vectors E1 and A1. -/
def e1Plain : Block := hexBlock 0x00112233445566778899aabbccddeeff

/-- Round key 1 of vector K1. -/
theorem test_expandKey_K1 :
    roundKey (expandKey (hexBlock 0x000102030405060708090a0b0c0d0e0f)) 1
      = hexBlock 0xd6aa74fdd2af72fadaa678f1d6ab76fe := by decide +kernel

theorem test_expandKey_15 : after 0x0F000001 plain answer = some (some ⟨1, 0x00⟩, 0x01) := by decide +kernel

/-- Vector E1, the checkpoint after round 1. -/
theorem test_encrypt_round_1 :
    checkpoint e1Plain k1 1 = hexBlock 0x89d810e8855ace682d1843d8cb128fe4 := by decide +kernel

/-- Vector E1, the last round: its checkpoint is the known answer. -/
theorem test_encrypt_final_round :
    finalRound (hexBlock 0xbd6e7c3df2b5779e0b61216e8b10b689) (roundKey k1 10)
      = hexBlock 0x69c4e0d86a7b0430d8cdb78070b4c55a := by decide +kernel

theorem test_encrypt_17 : after 0x11000002 plain answer = some (some ⟨2, 0x00⟩, 0x02) := by decide +kernel

/-- Vector D1, the initial step. -/
theorem test_decrypt_initial_step :
    invSubBytes (invShiftRows (addRoundKey (hexBlock 0x69c4e0d86a7b0430d8cdb78070b4c55a) (roundKey k1 10)))
      = hexBlock 0xbd6e7c3df2b5779e0b61216e8b10b689 := by decide +kernel

/-- Vector D1, from round 1 on. -/
theorem test_decrypt_last_rounds :
    decryptFrom k1 1 (hexBlock 0x89d810e8855ace682d1843d8cb128fe4) = e1Plain := by decide +kernel

theorem test_decrypt_15 : after 0x0F000003 plain answer = some (some ⟨2, 0x00⟩, 0x02) := by decide +kernel

/-- Vector A1, the count after round 1. -/
theorem test_avalanche_A1 :
    countChangedBits (checkpoint e1Plain k1 1) (perturbedCheckpoint e1Plain k1 0 .plaintext 1) = 17 := by
  decide +kernel

theorem test_avalanche_length_before_position :
    after 0x0001C804 plain answer = some (some ⟨2, 0x00⟩, 0x02) := by decide +kernel

/-! ## Unit commands (vectors GF4, H1, H2, F5, F8) -/

theorem test_sbox_53 : after 0x00005310 plain State.res = some 0xED := by decide +kernel
theorem test_sbox_reserved : after 0x00015310 plain answer = some (some ⟨4, 0x00⟩, 0x08) := by decide +kernel
theorem test_invSbox_52 : after 0x00005211 plain State.res = some 0x48 := by decide +kernel
theorem test_gfMul_13_57 : after 0x00135712 plain State.res = some 0xFE := by decide +kernel
theorem test_gfMul_FF_FF : after 0x00FFFF12 plain State.res = some 0x13 := by decide +kernel
theorem test_hamming_H1 : after 0x00000013 plain State.res = some 0x20 := by decide +kernel
theorem test_hamming_H4 :
    after 0x00000013 (stateWith 0x000102030405060708090a0b0c0d0e0f) State.res = some 0x00 := by decide +kernel
theorem test_flipBit_77 :
    after 0x00004D14 plain State.dout = some (hexBlock 0x001122334455667788b9aabbccddeeff) := by decide +kernel
theorem test_flipBit_128 : after 0x00008014 plain answer = some (some ⟨3, 0x00⟩, 0x04) := by decide +kernel

/-! ## Single transforms (vectors E5, D6) -/

theorem test_subBytes :
    after 0x00000020 (stateWith 0x000102030405060708090a0b0c0d0e0f) State.dout
      = some (hexBlock 0x637c777bf26b6fc53001672bfed7ab76) := by decide +kernel
theorem test_shiftRows :
    after 0x00000021 (stateWith 0x000102030405060708090a0b0c0d0e0f) State.dout
      = some (hexBlock 0x00050a0f04090e03080d02070c01060b) := by decide +kernel
theorem test_mixColumns :
    after 0x00000022 (stateWith 0xd4d4d4d52d26314c0100000000000001) State.dout
      = some (hexBlock 0xd5d5d7d64d7ebdf80201010301010302) := by decide +kernel
theorem test_addRoundKey_10 :
    after 0x00000A23 (stateWith 0x7a9f102789d5f50b2beffd9f3dca4ea7) State.dout
      = some (hexBlock 0x698e0d586a41bf1cd8e85a1470e17e62) := by decide +kernel
theorem test_addRoundKey_11 : after 0x00000B23 plain answer = some (some ⟨4, 0x00⟩, 0x08) := by decide +kernel
theorem test_invSubBytes :
    after 0x00000028 (stateWith 0x63cab7040953d051cd60e0e7ba70e18c) State.dout
      = some (hexBlock 0x00102030405060708090a0b0c0d0e0f0) := by decide +kernel
theorem test_invShiftRows :
    after 0x00000029 (stateWith 0x000102030405060708090a0b0c0d0e0f) State.dout
      = some (hexBlock 0x000d0a0704010e0b0805020f0c090603) := by decide +kernel
theorem test_invMixColumns :
    after 0x0000002A (stateWith 0x01000000000100000000010000000000) State.dout
      = some (hexBlock 0x0e090d0b0b0e090d0d0b0e0900000000) := by decide +kernel

/-! ## Data movement (vectors M4, M9, M13, M14, M17, M24, M29) -/

theorem test_wrb_last_byte : after 0x01AFA630 plain (fun t => (t.rk[175], t.rk[174])) = some (0xA6, 0x30) := by
  decide +kernel
theorem test_wrb_status : after 0x00610030 plain answer = some (some ⟨5, 0x00⟩, 0x10) := by decide +kernel
theorem test_rdb_avr_21 : after 0x00550031 plain answer = some (some ⟨0, 110⟩, 0x00) := by decide +kernel
theorem test_rdb_unmapped : after 0x00560031 plain answer = some (some ⟨5, 0x00⟩, 0x10) := by decide +kernel
theorem test_rdb_status :
    after 0x00610031 (plain.setStatus 0x1F) answer = some (some ⟨0, 0x1F⟩, 0x1F) := by decide +kernel
theorem test_copy_din_dout :
    after 0x00030132 plain State.din = some (hexBlock 0x69c4e0d86a7b0430d8cdb78070b4c55a) := by decide +kernel
theorem test_copy_dst_3 : after 0x00010332 plain answer = some (some ⟨4, 0x00⟩, 0x08) := by decide +kernel

/-! ## The step, the port and reset -/

theorem test_illegal_word : after 0x00000000 plain answer = some (some ⟨4, 0x00⟩, 0x08) := by decide +kernel

theorem test_step_idle : step plain = .next plain := rfl

theorem test_step_refuses_a_violated_handshake :
    step (plain.setPending [.handshakeViolation]) = .refused .handshakeViolated := rfl

theorem test_reset_event : (match step ((plain.setStatus 0x1F).setPending [.reset, .command 0x13]) with
    | .next t => some (t.status, t.pending, t.responses, t.resets)
    | .fault _ => none
    | .refused _ => none) = some (0x00, [.command 0x13], [], 1) := by decide +kernel

/-- The first instruction after reset runs, and reads what the reset left. -/
theorem test_first_instruction_after_reset :
    step (State.reset.withFetchWord 32 0x00100031) = exec (.rdb 0x0010) State.reset := rfl

/-! ## Witnesses: the hypotheses of each statement are met, each clause at a boundary value -/

theorem witness_DecodeOfEncodeIsTheInstruction :
    Instr.WellFormed (.addRoundKey 10) ∧ Instr.WellFormed (.copy .ref .dout) := by decide

theorem witness_EncodeOfDecodeIsTheWord : decode 0x01AFA630 = .ok (.wrb 0x01AF 0xA6) := by decide

theorem witness_DecodeIsTheMaskAndMatchTest : Opcode.copy.selects 0x00030232 = true := by decide

theorem witness_EveryOtherWordIsIllegal :
    opcodeOf (fieldOp 0x00000033) = none ∧ fieldOp 0x00000000 = 0x00 ∧ fieldOp 0xFFFFFFFF = 0xFF := by decide

theorem witness_RestrictedOperandsAreIllegal :
    1 < (0x02 : Byte).toNat ∧ 10 < (0x0B : Byte).toNat ∧ 2 < (0x03 : Byte).toNat ∧ 3 < (0x04 : Byte).toNat ∧
    (0x0A : Byte).toNat ≤ 10 ∧ Buf.ref ≠ .dout := by decide

theorem witness_StepRunsTheDecodedInstruction :
    (presentWord 0x00000013 plain).pending = .command 0x00000013 :: [] ∧ decode 0x00000013 = .ok .hamming := by
  decide +kernel

theorem witness_IdleCoreKeepsItsState :
    plain.pending = [] ∧ (plain.setPending [.handshakeViolation]).pending = .handshakeViolation :: [] := by decide

theorem witness_ResetStateIsAsSpecified :
    Location.rk 175 ≠ .status ∧ (0x01AF : Addr) ≠ 0x0061 ∧ hostReadable 0x01AF = true := by decide

theorem witness_ResetTransitionForgetsEverything :
    ((plain.setPending [.reset]).pending = .reset :: [] ∧
      (plain.setPending [.resetDuring 0x10000002]).pending = .resetDuring 0x10000002 :: []) ∧
    (0x0060 : Addr) ≠ 0x0061 ∧ hostReadable 0x0060 = true := by decide

theorem witness_runInv_plain : RunInv plain := by
  constructor
  · decide
  · intro e; cases e <;> decide
  · decide
  · decide

theorem witness_StepKeepsRunInv : RunInv plain ∧ step plain = .next plain := ⟨witness_runInv_plain, rfl⟩

theorem witness_OnlyResetClearsStickyBits :
    (∃ t, step (presentWord 0x00000013 (plain.setStatus 0x10)) = .next t ∧
      statusShows (plain.setStatus 0x10).status .badAccess = true) ∧
    (∃ t, step ((plain.setStatus 0x10).setPending [.reset]) = .next t ∧
      statusShows (plain.setStatus 0x10).status .badAccess = true ∧ statusShows t.status .badAccess = false) ∧
    RunInv plain :=
  ⟨⟨_, rfl, rfl⟩, ⟨_, rfl, rfl, rfl⟩, witness_runInv_plain⟩

theorem witness_OneResponsePerCommand :
    (decode 0x00300031 = .ok (.rdb 0x0030) ∧ errorOf (.rdb 0x0030) = none ∧ memRead 0x0030 plain = some 0x69) ∧
    (decode 0x00560031 = .ok (.rdb 0x0056) ∧ errorOf (.rdb 0x0056) = some .badAccess ∧ memRead 0x0056 plain = none) ∧
    decode 0x00000000 = .error .undefinedOpcode := by decide +kernel

theorem witness_EveryRunIsAnswered :
    (plain.setPending ([0x00000013, 0x00000000].map HostEvent.command)).pending
      = [0x00000013, 0x00000000].map HostEvent.command := rfl

theorem witness_NoResultDependsOnStatus :
    (∃ t, exec (.rdb 0x0061) plain = .next t) ∧ (∃ t, exec .hamming plain = .next t) ∧
    Instr.hamming ≠ .rdb 0x0061 ∧ Location.res ≠ .status := ⟨⟨_, rfl⟩, ⟨_, rfl⟩, by decide, by decide⟩

theorem witness_RaiseSetsOneStickyBit : Location.keyin 0 ≠ .status ∧ 7 < 8 := by decide

theorem witness_ErrorsComeFromTheWordAlone :
    errorOf (.flipBit 128) = some .invalidBitPosition ∧ errorOf (.flipBit 127) = none ∧
    errorOf (.encrypt 15) = some .invalidBlockLength ∧ errorOf (.encrypt 16) = none ∧
    errorOf (.wrb 0x002F 0) = none ∧ errorOf (.wrb 0x0030 0) = some .badAccess ∧
    errorOf (.rdb 0x01AF) = none ∧ errorOf (.rdb 0x01B0) = some .badAccess := by decide

theorem witness_FrameOfEveryCommand :
    (∃ t, exec .hamming plain = .next t) ∧ (0x0000 : Addr) ≠ 0x0061 ∧ ¬ mayWrite .hamming 0x0000 ∧
    errorOf .hamming = none ∧ errorOf (.encrypt 15) ≠ none ∧ (∃ t, exec (.encrypt 15) plain = .next t) := by
  refine ⟨⟨_, rfl⟩, by decide, ?_, rfl, by decide, ⟨_, rfl⟩⟩
  show ¬ ((0x0000 : Addr) = 0x0060)
  decide

theorem witness_MemReadFollowsTheMap :
    hostReadable 0x0056 = false ∧ hostReadable 0x005F = false ∧ hostReadable 0x0062 = false ∧
    hostReadable 0x00FF = false ∧ hostReadable 0x01B0 = false ∧ hostReadable 0xFFFF = false := by decide

theorem witness_WriteChangesOneByte :
    hostWritable 0x002F = true ∧ hostWritable 0x0100 = true ∧ hostWritable 0x01AF = true ∧
    hostWritable 0x0030 = false ∧ hostWritable 0x00FF = false ∧ hostWritable 0x01B0 = false ∧
    memRead 0x0000 plain = some 0x00 ∧ (0x0001 : Addr) ≠ 0x0000 := by decide +kernel

theorem witness_GmulIsThePolynomialProduct : ∃ a b : Byte, bytePoly a = bytePoly b := ⟨0x57, 0x57, rfl⟩

theorem witness_FieldLaws : gmul 0x00 0x57 = 0x00 ∧ (0x53 : Byte) ≠ 0x00 ∧ gmul 0x53 0xCA = 0x01 := by decide +kernel

/-- For the reserved-field clauses of SboxWritesRes, InvSboxWritesRes, GfmulWritesRes, ExpandKeyWritesRk,
EncryptWritesDout, DecryptWritesDout, FlipBitWritesDout, HammingWritesRes, RdbReadsOneByte, CopyMovesABuffer and the
statements of the seven single transforms: the lowest and the highest nonzero field. -/
theorem witness_reserved_fields : (0x01 : Byte) ≠ 0x00 ∧ (0xFF : Byte) ≠ 0x00 := by decide

theorem witness_ExpandKeyFollowsTheRecurrence : 4 ≤ 43 ∧ 43 < 44 := by decide

theorem witness_RoundKeyFollowsFromTheOneBefore :
    9 < 10 ∧ ∃ k l : Block, expandKey k = expandKey l := ⟨by decide, hexBlock 1, hexBlock 1, rfl⟩

/-- For the length clauses of ExpandKeyWritesRk, EncryptWritesDout, DecryptWritesDout and AvalancheWritesAvr. -/
theorem witness_lengths : (0x00 : Byte) ≠ 16 ∧ (0x0F : Byte) ≠ 16 ∧ (0x11 : Byte) ≠ 16 ∧ (0xFF : Byte) ≠ 16 := by decide

/-- For the position clauses of FlipBitWritesDout, AvalancheWritesAvr, FlipBitInvertsOneBit,
ChangedBitsIsTheHammingDistance, FirstAvalancheCountIsOne and PlaintextFlipSpreads; and AVALANCHE's TARGET above 1. -/
theorem witness_positions :
    (0x7F : Byte).toNat ≤ 127 ∧ 127 < (0x80 : Byte).toNat ∧ 127 < 128 ∧ 7 < 8 ∧ 1 < (0x02 : Byte).toNat := by decide

theorem witness_AddRoundKeyWritesDout :
    (0x00 : Byte).toNat ≤ 10 ∧ (0x0A : Byte).toNat ≤ 10 ∧ 10 < (0x0B : Byte).toNat := by decide

theorem witness_WrbWritesOneByte :
    hostWritable 0x0000 = true ∧ hostWritable 0x01AF = true ∧ hostWritable 0x0061 = false ∧
    (0x0001 : Addr) ≠ 0x0000 := by decide

theorem witness_RdbReadsOneByte :
    plain.dout = hexBlock 0x69c4e0d86a7b0430d8cdb78070b4c55a ∧ hostReadable 0x0055 = true ∧ hostReadable 0x0056 = false ∧ hostReadable 0x0061 = true ∧
    hostReadable 0x0062 = false ∧ hostReadable 0x01AF = true ∧ hostReadable 0x01B0 = false := by decide

theorem witness_ShiftRowsRotatesTheRows :
    ∀ c : Fin 4, columnOf (hexBlock 0x01020304010203040102030401020304) c
      = columnOf (hexBlock 0x01020304010203040102030401020304) 0 := by decide

theorem witness_KeyScheduleWordFunctions : 8 < 9 := by decide

theorem witness_ChangedBitsIsTheHammingDistance :
    countChangedBits (hexBlock 0) (hexBlock 0) = 0 ∧
    countChangedBits (hexBlock 0) (hexBlock 0xffffffffffffffffffffffffffffffff) = 128 := by decide +kernel

theorem witness_CopyMovesABuffer :
    Buf.keyin ≠ .dout ∧ Buf.ref ≠ .dout ∧ 2 < (0x03 : Byte).toNat ∧ 3 < (0x04 : Byte).toNat := by decide

end Sys2Proof.Tests
end

section
/-! PROOFS. The scope of a step (00_scope.md R9): a step runs the command next at the port, and the frame of the
nineteen commands (10_state.md R35) with the error each raises (60_exceptions.md R181). -/

namespace Sys2Proof.Machine

/-! ## The step -/

/-- A step takes the next event off the port and serves it. -/
theorem step_of_pending_cons {s : State} {e : HostEvent} {rest : List HostEvent} (h : s.pending = e :: rest) :
    step s = serve e (s.setPending rest) := by
  rw [step, serveNext, h]

/-! ## The address map and the checks of the operands -/

/-- The map names a byte exactly at the addresses the host may read (R41). -/
theorem isSome_locate (a : Addr) : (locate a).isSome = hostReadable a := by
  rw [Bool.eq_iff_iff]
  simp only [hostReadable, Bool.or_eq_true, Bool.and_eq_true, decide_eq_true_eq]
  unfold locate
  split_ifs <;> simp <;> omega

/-- A located byte takes a write exactly at the addresses the host may write (R41, R48). -/
theorem isSome_writeAt_of_locate {a : Addr} {l : Location} (h : locate a = some l) (v : Byte) (s : State) :
    (writeAt l v s).isSome = hostWritable a := by
  rw [writeAt_isSome, ← address_of_locate h, Bool.eq_iff_iff]
  cases l <;> simp [hostWritable, Location.address] <;> omega

theorem hostReadable_of_hostWritable {a : Addr} (h : hostWritable a = true) : hostReadable a = true := by
  simp only [hostWritable, hostReadable, Bool.or_eq_true, Bool.and_eq_true, decide_eq_true_eq] at h ⊢
  omega

/-- A write succeeds exactly at the addresses the host may write (R48). -/
theorem isSome_memWrite (a : Addr) (v : Byte) (s : State) : (memWrite a v s).isSome = hostWritable a := by
  cases hl : locate a with
  | some l => rw [memWrite, hl]; exact isSome_writeAt_of_locate hl v s
  | none =>
    have hr : ¬ hostReadable a = true := by simp [← isSome_locate, hl]
    rw [memWrite, hl, Bool.eq_false_of_not_eq_true (mt hostReadable_of_hostWritable hr)]
    rfl

/-- A read succeeds exactly at the addresses the host may read (R47). -/
theorem isSome_memRead (a : Addr) (s : State) : (memRead a s).isSome = hostReadable a := by
  rw [memRead, Option.isSome_map, isSome_locate]

theorem lengthIs16_iff (len : Byte) : lengthIs16 len = true ↔ len = 16 := by simp [lengthIs16]

theorem positionInRange_iff (pos : Byte) : positionInRange pos = true ↔ ¬ 127 < pos.toNat := by
  simp [positionInRange]

theorem roundIndexInRange_iff (r : Byte) : roundIndexInRange r = true ↔ ¬ 10 < r.toNat := by
  simp [roundIndexInRange]

/-! ## The frame of a write -/

/-- A read sees no more of a state than the location its address names (R41, R47). -/
theorem memRead_congr {a : Addr} {s t : State} (h : ∀ l : Location, l.address = a → readAt l t = readAt l s) :
    memRead a t = memRead a s := by
  cases hl : locate a with
  | none => simp [memRead, hl]
  | some l => simp [memRead, hl, h l (address_of_locate hl)]

theorem memRead_status (s : State) : memRead 0x0061 s = some s.status := rfl

/-- An error leaves every byte but STATUS as it was (R184). -/
theorem memRead_raised {a : Addr} (ha : a ≠ 0x0061) (s : State) (b : Byte) (r : Response) :
    memRead a ((s.setStatus b).respond r) = memRead a s := by
  refine memRead_congr fun l hl => ?_
  cases l with
  | status => exact absurd hl.symm ha
  | _ => rfl

/-- A response is no byte of the buffer space. -/
theorem memRead_respond (a : Addr) (s : State) (r : Response) : memRead a (s.respond r) = memRead a s :=
  memRead_congr fun l _ => by cases l <;> rfl

/-- From `s` to `t` only bytes at the addresses of `W` changed: STATUS, the port and the counter did not. -/
structure FramedBy (W : Addr → Prop) (s t : State) : Prop where
  reads : ∀ l : Location, ¬ W l.address → readAt l t = readAt l s
  status : t.status = s.status
  pending : t.pending = s.pending
  responses : t.responses = s.responses
  resets : t.resets = s.resets

theorem FramedBy.memRead {W : Addr → Prop} {s t : State} (h : FramedBy W s t) {a : Addr} (ha : ¬ W a) :
    memRead a t = memRead a s :=
  memRead_congr fun l hl => h.reads l (hl ▸ ha)

theorem framedBy_self (s : State) : FramedBy (fun _ => False) s s := ⟨fun _ _ => rfl, rfl, rfl, rfl, rfl⟩

theorem framedBy_setRes (s : State) (b : Byte) : FramedBy (fun a => a = 0x0060) s (s.setRes b) := by
  refine ⟨fun l hl => ?_, rfl, rfl, rfl, rfl⟩
  cases l with
  | res => exact absurd rfl hl
  | _ => rfl

theorem framedBy_setDout (s : State) (x : Block) :
    FramedBy (fun a => 0x0030 ≤ a.toNat ∧ a.toNat < 0x0040) s (s.setDout x) := by
  refine ⟨fun l hl => ?_, rfl, rfl, rfl, rfl⟩
  cases l with
  | dout i => exact absurd (by simp [Location.address]; omega) hl
  | _ => rfl

theorem framedBy_setRk (s : State) (w : ExpandedKey) :
    FramedBy (fun a => 0x0100 ≤ a.toNat ∧ a.toNat < 0x01B0) s (s.setRk w) := by
  refine ⟨fun l hl => ?_, rfl, rfl, rfl, rfl⟩
  cases l with
  | rk i => exact absurd (by simp [Location.address]; omega) hl
  | _ => rfl

theorem framedBy_setAvr (s : State) (v : Vector AvrEntry 11) :
    FramedBy (fun a => 0x0040 ≤ a.toNat ∧ a.toNat < 0x0056) s (s.setAvr v) := by
  refine ⟨fun l hl => ?_, rfl, rfl, rfl, rfl⟩
  cases l with
  | avrRound i => exact absurd (by simp [Location.address]; omega) hl
  | avrCount i => exact absurd (by simp [Location.address]; omega) hl
  | _ => rfl

/-- A byte write changes the byte addressed and no other (R48). -/
theorem framedBy_memWrite {addr : Addr} {v : Byte} {s t : State} (h : memWrite addr v s = some t) :
    FramedBy (fun a => a = addr) s t := by
  obtain ⟨l, hl, hw⟩ := memWrite_eq_some h
  obtain ⟨-, hother, hp, hr, hn⟩ := writeAt_spec hw
  have hstatus : Location.status ≠ l := by
    rintro rfl
    cases hw
  exact ⟨fun m hm => hother m fun e => hm (e ▸ address_of_locate hl), hother .status hstatus, hp, hr, hn⟩

/-- A buffer write changes the 16 bytes of that buffer and no other (R172). -/
theorem framedBy_writeBuffer {b : Buf} {x : Block} {s t : State} (h : writeBuffer b x s = some t) :
    FramedBy (fun a => Buf.base b ≤ a.toNat ∧ a.toNat < Buf.base b + 16) s t := by
  obtain ⟨-, hother, hres, hrk, havr, hstatus, hp, hr, hn⟩ := writeBuffer_eq_some h
  have outside (c : Buf) (i : Fin 16) (hc : ¬ (Buf.base b ≤ (BitVec.ofNat 16 (Buf.base c + i.val)).toNat ∧
      (BitVec.ofNat 16 (Buf.base c + i.val)).toNat < Buf.base b + 16)) :
      (readBuffer c t)[i] = (readBuffer c s)[i] := by
    rw [hother c]
    rintro rfl
    have hbase : Buf.base c ≤ 0x0030 := by cases c <;> decide
    rw [BitVec.toNat_ofNat] at hc
    omega
  refine ⟨fun l hl => ?_, hstatus, hp, hr, hn⟩
  cases l with
  | keyin i => exact outside .keyin i hl
  | din i => exact outside .din i hl
  | ref i => exact outside .ref i hl
  | dout i => exact outside .dout i hl
  | avrRound i => simp [readAt, havr]
  | avrCount i => simp [readAt, havr]
  | res => exact hres
  | status => exact hstatus
  | rk i => simp [readAt, hrk]

/-! ## What each command answers -/

/-- The answer `r` of a command in `s` that writes within `W`: the error `some e` is raised, or there is none and the
command completes within its write set. -/
inductive AnswersWithin (W : Addr → Prop) (s : State) : Option CmdError → Result → Prop
  | raises (e : CmdError) : AnswersWithin W s (some e) (raise e s)
  | completes {t : State} (d : Byte) (h : FramedBy W s t) : AnswersWithin W s none (completeWith d t)

namespace AnswersWithin
variable {W : Addr → Prop} {s : State} {ok : Bool} {c : Prop} [Decidable c] {e : CmdError} {err : Option CmdError}
  {r : Result}

/-- An operand check `ok` before a command, where the table of errors has a row `c` for its failing. -/
theorem raises_if (hok : ok = true ↔ ¬ c) (h : AnswersWithin W s err r) :
    AnswersWithin W s (if c then some e else err) (if ok then r else raise e s) := by
  by_cases hc : c
  · rw [if_pos hc, if_neg (by simp [hok, hc])]
    exact .raises e
  · rw [if_neg hc, if_pos (hok.2 hc)]
    exact h

/-- An operand check `ok` before a command, where the table of errors gives the condition `c` of its passing. -/
theorem raises_unless (hok : ok = true ↔ c) (h : AnswersWithin W s err r) :
    AnswersWithin W s (if c then err else some e) (if ok then r else raise e s) := by
  rw [← ite_not]
  exact raises_if (by rw [hok, not_not]) h

end AnswersWithin

open AnswersWithin

theorem execWrb_answersWithin (addr : Addr) (data : Byte) (s : State) :
    AnswersWithin (mayWrite (.wrb addr data)) s (errorOf (.wrb addr data)) (execWrb addr data s) := by
  rw [errorOf, execWrb, ← isSome_memWrite addr data s]
  cases h : memWrite addr data s with
  | none => exact .raises _
  | some t => exact .completes _ (framedBy_memWrite h)

theorem execRdb_answersWithin (addr : Addr) (s : State) :
    AnswersWithin (mayWrite (.rdb addr)) s (errorOf (.rdb addr)) (execRdb addr s) := by
  rw [errorOf, execRdb, ← isSome_memRead addr s]
  cases memRead addr s with
  | none => exact .raises _
  | some v => exact .completes v (framedBy_self s)

theorem execCopy_answersWithin (dst src : Buf) (s : State) :
    AnswersWithin (mayWrite (.copy dst src)) s (errorOf (.copy dst src)) (execCopy dst src s) := by
  cases dst with
  | keyin => exact .completes _ (framedBy_writeBuffer (b := .keyin) rfl)
  | din => exact .completes _ (framedBy_writeBuffer (b := .din) rfl)
  | ref => exact .completes _ (framedBy_writeBuffer (b := .ref) rfl)
  | dout => exact .raises _

/-- Every command raises the error of R181, if any, or else completes within its write set of R35. -/
theorem exec_answersWithin (i : Instr) (s : State) : AnswersWithin (mayWrite i) s (errorOf i) (exec i s) := by
  cases i with
  | expandKey len => exact raises_unless (lengthIs16_iff len) (.completes _ (framedBy_setRk _ _))
  | encrypt len => exact raises_unless (lengthIs16_iff len) (.completes _ (framedBy_setDout _ _))
  | decrypt len => exact raises_unless (lengthIs16_iff len) (.completes _ (framedBy_setDout _ _))
  | avalanche pos target len =>
    exact raises_if (by rw [lengthIs16_iff, not_not])
      (raises_if (positionInRange_iff pos) (.completes _ (framedBy_setAvr _ _)))
  | sbox b => exact .completes _ (framedBy_setRes _ _)
  | invSbox b => exact .completes _ (framedBy_setRes _ _)
  | gfMul c b => exact .completes _ (framedBy_setRes _ _)
  | hamming => exact .completes _ (framedBy_setRes _ _)
  | flipBit pos => exact raises_if (positionInRange_iff pos) (.completes _ (framedBy_setDout _ _))
  | subBytes => exact .completes _ (framedBy_setDout _ _)
  | shiftRows => exact .completes _ (framedBy_setDout _ _)
  | mixColumns => exact .completes _ (framedBy_setDout _ _)
  | addRoundKey r => exact raises_if (roundIndexInRange_iff r) (.completes _ (framedBy_setDout _ _))
  | invSubBytes => exact .completes _ (framedBy_setDout _ _)
  | invShiftRows => exact .completes _ (framedBy_setDout _ _)
  | invMixColumns => exact .completes _ (framedBy_setDout _ _)
  | wrb addr data => exact execWrb_answersWithin addr data s
  | rdb addr => exact execRdb_answersWithin addr s
  | copy dst src => exact execCopy_answersWithin dst src s

/-- If a command answers `t`, it raised its error and only STATUS and the responses changed, or it has none and `t` is
a state framed by its write set, with the response given. -/
theorem exec_next_cases {i : Instr} {s t : State} (h : exec i s = .next t) :
    (∃ e, errorOf i = some e ∧ t = (s.setStatus (setSticky s.status e)).respond (errorResponse e)) ∨
    (errorOf i = none ∧ ∃ (u : State) (d : Byte), FramedBy (mayWrite i) s u ∧ t = u.respond (okResponse d)) := by
  have hanswer := exec_answersWithin i s
  generalize errorOf i = err, exec i s = r at hanswer h
  cases hanswer with
  | raises e => exact .inl ⟨e, rfl, (Host.Outcome.next.inj h).symm⟩
  | completes d hframe => exact .inr ⟨rfl, _, d, hframe, (Host.Outcome.next.inj h).symm⟩

/-! ## The obligations -/

/-- Settles O7: the step serves the word, and a word that decodes is executed as its instruction. -/
theorem stepRunsTheDecodedInstruction : Obligations.StepRunsTheDecodedInstruction := by
  intro s w rest i hpending hdecode
  calc step s = executeWord w (s.setPending rest) := step_of_pending_cons hpending
    _ = exec i (s.setPending rest) := executeWord_ok hdecode _

/-- Settles O19: an error changes STATUS only, and a success stays within the write set and leaves STATUS. -/
theorem frameOfEveryCommand : Obligations.FrameOfEveryCommand := by
  intro i s t h
  obtain ⟨e, herr, rfl⟩ | ⟨herr, u, d, hframe, rfl⟩ := exec_next_cases h
  · have hreads (a : Addr) (ha : a ≠ 0x0061) := memRead_raised ha s (setSticky s.status e) (errorResponse e)
    refine ⟨fun a ha _ => hreads a ha, fun _ => hreads, fun hnone => ?_, rfl, rfl⟩
    simp [herr] at hnone
  · refine ⟨fun a _ hw => ?_, fun hsome => absurd herr hsome, fun _ => ?_, hframe.pending, hframe.resets⟩
    · rw [memRead_respond, hframe.memRead hw]
    · rw [memRead_status, memRead_status, State.respond_status, hframe.status]

end Sys2Proof.Machine
end

section
/-! PROOFS. The state (10_state.md): what reset leaves (R34), the invariant of a run and its preservation by every step
(R29, R68, R180, R184, R185), and the independence of every command's result from STATUS (R29). -/

namespace Sys2Proof.Machine

/-! ## The bytes that a reset leaves -/

/-- Every data byte after a reset is the free value drawn at the byte's address (R34, R200). -/
theorem readAt_atReset {l : Location} (hl : l ≠ .status) (n : Nat) (waiting : List HostEvent) :
    readAt l (State.atReset n waiting) = Config.resetFill n l.address.toNat := by
  cases l with
  | status => exact absurd rfl hl
  | _ => simp (disch := omega) [readAt, State.atReset, Location.address, Nat.mod_eq_of_lt]

/-- The host reads the free value at every mapped address but that of STATUS (R34, R47, R200). -/
theorem memRead_atReset {a : Addr} (ha : a ≠ 0x0061) (hr : hostReadable a = true) (n : Nat)
    (waiting : List HostEvent) :
    memRead a (State.atReset n waiting) = some (Config.resetFill n a.toNat) := by
  obtain ⟨l, hl⟩ := Option.isSome_iff_exists.1 ((isSome_locate a).trans hr)
  have haddr : l.address = a := address_of_locate hl
  have hstatus : l ≠ .status := by
    rintro rfl
    exact ha haddr.symm
  rw [memRead, hl, Option.map_some, readAt_atReset hstatus, haddr]

/-! ## The invariant of a run -/

/-- A reset forgets the errors and the responses alike, so the two agree again (R185, R200). -/
theorem runInv_atReset (n : Nat) (waiting : List HostEvent) : RunInv (State.atReset n waiting) where
  reserved_zero := by simp [statusReserved]
  sticky_iff e := by cases e <;> simp [statusShows]
  codes_legal := by simp
  error_data_zero := by simp

/-- The invariant does not speak of the events still waiting at the port. -/
theorem RunInv.setPending {s : State} (h : RunInv s) (rest : List HostEvent) : RunInv (s.setPending rest) :=
  ⟨h.reserved_zero, h.sticky_iff, h.codes_legal, h.error_data_zero⟩

/-- One more response keeps the invariant if it is a legal one and STATUS then shows, beside the errors it showed
before, the one that the response carries. -/
theorem RunInv.of_response {s t : State} {r : Response} (h : RunInv s) (hresponses : t.responses = s.responses ++ [r])
    (hreserved : statusReserved t.status = statusReserved s.status)
    (hshows : ∀ e : CmdError, statusShows t.status e = true ↔ statusShows s.status e = true ∨ r.err = e.code)
    (hcode : r.err.toNat ≤ 5) (hdata : r.err ≠ 0 → r.data = 0x00) : RunInv t where
  reserved_zero := hreserved.trans h.reserved_zero
  sticky_iff e := by simp [hshows, h.sticky_iff, hresponses, or_and_right, exists_or]
  codes_legal := by simpa [hresponses, or_imp, forall_and] using ⟨h.codes_legal, hcode⟩
  error_data_zero := by simpa [hresponses, or_imp, forall_and] using ⟨h.error_data_zero, hdata⟩

/-- Raising an error sets the one sticky bit that its response calls for (R184). -/
theorem RunInv.raised {s : State} (h : RunInv s) (e : CmdError) :
    RunInv ((s.setStatus (setSticky s.status e)).respond (errorResponse e)) := by
  refine h.of_response rfl (statusReserved_setSticky _ e) (fun f => ?_) e.code_le_five (fun _ => rfl)
  have hcode : e.code = f.code ↔ f = e := ⟨fun hc => (CmdError.code_injective hc).symm, fun hc => by rw [hc]⟩
  simp [statusShows_setSticky, hcode]

/-- A success with STATUS as it was answers code 0, which is no error's code (R180). -/
theorem RunInv.completed {s u : State} (h : RunInv s) (hstatus : u.status = s.status)
    (hresponses : u.responses = s.responses) (d : Byte) : RunInv (u.respond (okResponse d)) := by
  refine h.of_response (r := okResponse d) (by simp [hresponses]) (by simp [hstatus]) (fun e => ?_) (by simp) (by simp)
  rw [State.respond_status, hstatus]
  exact (or_iff_left e.code_ne_zero.symm).symm

/-- An accepted command word keeps the invariant, whether it is a command or not. -/
theorem RunInv.of_executeWord {w : Word} {s t : State} (h : RunInv s) (hexec : executeWord w s = .next t) :
    RunInv t := by
  obtain ⟨e, hraise⟩ | ⟨u, d, hnext, hstatus, -, hresponses, -⟩ := executeWord_answers w s
  · cases hexec.symm.trans hraise
    exact h.raised e
  · cases hexec.symm.trans hnext
    exact h.completed hstatus hresponses d

/-! ## STATUS and the results of the commands -/

theorem readAt_respond (l : Location) (s : State) (r : Response) : readAt l (s.respond r) = readAt l s := by
  cases l <;> rfl

/-- STATUS is seen at its own location only. -/
theorem readAt_setStatus {l : Location} (hl : l ≠ .status) (s : State) (x : Byte) :
    readAt l (s.setStatus x) = readAt l s := by
  cases l with
  | status => exact absurd rfl hl
  | _ => rfl

theorem memRead_setStatus {a : Addr} (ha : a ≠ 0x0061) (s : State) (x : Byte) :
    memRead a (s.setStatus x) = memRead a s :=
  memRead_congr fun l hl => readAt_setStatus (by rintro rfl; exact ha hl.symm) s x

/-- A byte write neither reads STATUS nor writes it. -/
theorem memWrite_setStatus (a : Addr) (v : Byte) (s : State) (x : Byte) :
    memWrite a v (s.setStatus x) = (memWrite a v s).map fun t => t.setStatus x := by
  cases hl : locate a with
  | none => simp [memWrite, hl]
  | some l => simp only [memWrite, hl, Option.bind_some]; cases l <;> rfl

/-- The answers `r` and `q` are next states that are the same but for STATUS. -/
def SameButStatus (r q : Result) : Prop := ∃ (t : State) (b : Byte), r = .next t ∧ q = .next (t.setStatus b)

/-- A command that completes without looking at STATUS. -/
theorem sameButStatus_completeWith (d : Byte) (t : State) (x : Byte) :
    SameButStatus (completeWith d t) (completeWith d (t.setStatus x)) := ⟨_, x, rfl, rfl⟩

/-- An error adds its sticky bit to whatever STATUS holds. -/
theorem sameButStatus_raise (e : CmdError) (s : State) (x : Byte) :
    SameButStatus (raise e s) (raise e (s.setStatus x)) := ⟨_, setSticky x e, rfl, rfl⟩

theorem sameButStatus_ite {c : Prop} [Decidable c] {r r' q q' : Result} (hr : SameButStatus r r')
    (hq : SameButStatus q q') : SameButStatus (if c then r else q) (if c then r' else q') := by
  split
  · exact hr
  · exact hq

theorem sameButStatus_wrb (addr : Addr) (data : Byte) (s : State) (x : Byte) :
    SameButStatus (execWrb addr data s) (execWrb addr data (s.setStatus x)) := by
  rw [execWrb, execWrb, memWrite_setStatus]
  cases memWrite addr data s with
  | some t => exact sameButStatus_completeWith _ t x
  | none => exact sameButStatus_raise _ s x

theorem sameButStatus_rdb {addr : Addr} (haddr : addr ≠ 0x0061) (s : State) (x : Byte) :
    SameButStatus (execRdb addr s) (execRdb addr (s.setStatus x)) := by
  rw [execRdb, execRdb, memRead_setStatus haddr]
  cases memRead addr s with
  | some v => exact sameButStatus_completeWith v s x
  | none => exact sameButStatus_raise _ s x

theorem sameButStatus_copy (dst src : Buf) (s : State) (x : Byte) :
    SameButStatus (execCopy dst src s) (execCopy dst src (s.setStatus x)) := by
  have hsrc : readBuffer src (s.setStatus x) = readBuffer src s := by cases src <;> rfl
  rw [execCopy, execCopy, hsrc]
  cases dst with
  | keyin => exact sameButStatus_completeWith _ (s.setKeyin _) x
  | din => exact sameButStatus_completeWith _ (s.setDin _) x
  | ref => exact sameButStatus_completeWith _ (s.setRef _) x
  | dout => exact sameButStatus_raise _ s x

/-- Of all commands only the RDB of STATUS looks at STATUS (R29). -/
theorem exec_sameButStatus {i : Instr} (hi : i ≠ .rdb 0x0061) (s : State) (x : Byte) :
    SameButStatus (exec i s) (exec i (s.setStatus x)) := by
  have raises (e : CmdError) := sameButStatus_raise e s x
  have writesRes (b : Byte) := sameButStatus_completeWith 0x00 (s.setRes b) x
  have writesDout (y : Block) := sameButStatus_completeWith 0x00 (s.setDout y) x
  have writesRk (w : ExpandedKey) := sameButStatus_completeWith 0x00 (s.setRk w) x
  have writesAvr (v : Vector AvrEntry 11) := sameButStatus_completeWith 0x00 (s.setAvr v) x
  cases i with
  | expandKey len => exact sameButStatus_ite (writesRk _) (raises _)
  | encrypt len => exact sameButStatus_ite (writesDout _) (raises _)
  | decrypt len => exact sameButStatus_ite (writesDout _) (raises _)
  | avalanche pos target len => exact sameButStatus_ite (sameButStatus_ite (writesAvr _) (raises _)) (raises _)
  | sbox b => exact writesRes _
  | invSbox b => exact writesRes _
  | gfMul c b => exact writesRes _
  | hamming => exact writesRes _
  | flipBit pos => exact sameButStatus_ite (writesDout _) (raises _)
  | subBytes => exact writesDout _
  | shiftRows => exact writesDout _
  | mixColumns => exact writesDout _
  | addRoundKey r => exact sameButStatus_ite (writesDout _) (raises _)
  | invSubBytes => exact writesDout _
  | invShiftRows => exact writesDout _
  | invMixColumns => exact writesDout _
  | wrb addr data => exact sameButStatus_wrb addr data s x
  | rdb addr => exact sameButStatus_rdb (fun haddr => hi (haddr ▸ rfl)) s x
  | copy dst src => exact sameButStatus_copy dst src s x

/-! ## The obligations -/

/-- Settles O12: an idle step keeps the state, a command word adds the one response that STATUS accounts for, and a
reset starts again with neither. -/
theorem stepKeepsRunInv : Obligations.StepKeepsRunInv := by
  intro s t h hstep
  obtain ⟨-, rfl⟩ | ⟨w, rest, -, hexec⟩ | ⟨rest, -, rfl⟩ := step_cases hstep
  · exact h
  · exact (h.setPending rest).of_executeWord hexec
  · exact runInv_atReset _ rest

/-- Settles O16: the RDB of STATUS leaves every byte where it was, and no other command looks at STATUS. -/
theorem noResultDependsOnStatus : Obligations.NoResultDependsOnStatus := by
  intro i s t x h
  by_cases hi : i = .rdb 0x0061
  · subst hi
    have hread (u : State) : exec (.rdb 0x0061) u = .next (u.respond (okResponse u.status)) := rfl
    cases h.symm.trans (hread s)
    refine ⟨_, hread _, fun l hl => ?_, fun hne => absurd rfl hne⟩
    rw [readAt_respond, readAt_setStatus hl, readAt_respond]
  · obtain ⟨u, b, hs, hx⟩ := exec_sameButStatus hi s x
    cases h.symm.trans hs
    exact ⟨_, hx, fun l hl => readAt_setStatus hl t b, fun _ => rfl⟩

/-- Settles O9: reset is the reset transition's state number 0, with nothing waiting. -/
theorem resetStateIsAsSpecified : Obligations.ResetStateIsAsSpecified :=
  ⟨rfl, rfl, rfl, fun _ hl => readAt_atReset hl 0 [], fun _ ha hr => memRead_atReset ha hr 0 []⟩

/-- Settles O11: reset is one of the states that a reset leaves. -/
theorem resetMeetsRunInv : Obligations.ResetMeetsRunInv := runInv_atReset 0 []

end Sys2Proof.Machine
end

section
/-! PROOFS. The buffer space (20_memory.md): what MemRead gives at every address of the map (R41, R46, R47), and what
MemWrite changes (R48). -/

namespace Sys2Proof.Machine

/-! ## Reading by location -/

/-- MemRead at a location's own address gives the byte held there (R47). -/
theorem memRead_address (l : Location) (s : State) : memRead l.address s = some (readAt l s) := by
  rw [memRead, locate_address, Option.map_some]

/-- MemRead gives nothing at an address that the host may not read (R47). -/
theorem memRead_eq_none {a : Addr} (h : hostReadable a = false) (s : State) : memRead a s = none :=
  Option.not_isSome_iff_eq_none.1 (by simp [isSome_memRead, h])

/-! ## Writing by address -/

/-- Writing the byte that a location already holds changes nothing. -/
theorem writeAt_readAt {l : Location} {s t : State} (h : writeAt l (readAt l s) s = some t) : t = s := by
  cases l with
  | keyin i => cases h; simp [readAt, State.setKeyin]
  | din i => cases h; simp [readAt, State.setDin]
  | ref i => cases h; simp [readAt, State.setRef]
  | rk i => cases h; simp [readAt, State.setRk]
  | dout i | avrRound i | avrCount i | res | status => cases h

/-- A byte write leaves its byte at the address written (R48). -/
theorem memRead_memWrite_same {a : Addr} {v : Byte} {s t : State} (h : memWrite a v s = some t) :
    memRead a t = some v := by
  obtain ⟨l, hl, hw⟩ := memWrite_eq_some h
  rw [← address_of_locate hl, memRead_address, (writeAt_spec hw).1]

/-- Writing the byte that MemRead gives changes nothing (R48). -/
theorem memWrite_eq_self {a : Addr} {v : Byte} {s t : State} (h : memWrite a v s = some t)
    (hread : memRead a s = some v) : t = s := by
  obtain ⟨l, hl, hw⟩ := memWrite_eq_some h
  rw [← address_of_locate hl, memRead_address, Option.some.injEq] at hread
  exact writeAt_readAt (hread ▸ hw)

/-- MemWrite succeeds at an address that the host may write (R48). -/
theorem exists_memWrite {a : Addr} (h : hostWritable a = true) (v : Byte) (s : State) :
    ∃ t, memWrite a v s = some t :=
  Option.isSome_iff_exists.1 ((isSome_memWrite a v s).trans h)

/-- MemWrite gives nothing at an address that the host may not write (R48). -/
theorem memWrite_eq_none {a : Addr} (h : hostWritable a = false) (v : Byte) (s : State) : memWrite a v s = none :=
  Option.not_isSome_iff_eq_none.1 (by simp [isSome_memWrite, h])

/-- WRB raises BadAccess where MemWrite gives nothing (R170). -/
theorem exec_wrb_of_memWrite_eq_none {a : Addr} {v : Byte} {s : State} (h : memWrite a v s = none) :
    exec (.wrb a v) s = raise .badAccess s := by
  change execWrb a v s = _
  rw [execWrb, h]

/-! ## The obligations -/

/-- Settles O20: every address that the statement names is the address of a location. -/
theorem memReadFollowsTheMap : Obligations.MemReadFollowsTheMap := by
  intro s
  have read (l : Location) := memRead_address l s
  exact ⟨fun i => ⟨read (.keyin i), read (.din i), read (.ref i), read (.dout i)⟩,
    fun i => ⟨read (.avrRound i), read (.avrCount i)⟩, read .res, read .status, fun i => read (.rk i),
    fun _ h => memRead_eq_none h s⟩

/-- Settles O21: a write is framed by its address, and it finds a location exactly at the addresses the host may
write. -/
theorem writeChangesOneByte : Obligations.WriteChangesOneByte := by
  intro a v s
  refine ⟨fun ha => ?_, fun ha hread => ?_, fun ha => ?_⟩
  · obtain ⟨t, ht⟩ := exists_memWrite ha v s
    have hframe := framedBy_memWrite ht
    exact ⟨t, ht, memRead_memWrite_same ht, fun b hb => hframe.memRead hb, hframe.pending, hframe.responses,
      hframe.resets⟩
  · obtain ⟨t, ht⟩ := exists_memWrite ha v s
    rw [ht, memWrite_eq_self ht hread]
  · have hnone := memWrite_eq_none ha v s
    exact ⟨hnone, exec_wrb_of_memWrite_eq_none hnone⟩

end Sys2Proof.Machine
end

section
/-! PROOFS. The encoding (30_encoding.md): decode and encode are inverse to each other (R60 to R67, R70), decoding is the
mask and match test of the opcode table (R63, R64), and the words that are no command (R66, R67). -/

namespace Sys2Proof.Machine

/-! ## From the command to its word and back -/

theorem fieldOp_encode (i : Instr) : fieldOp (encode i) = i.opcode.byte := by
  cases i <;> simp [encode, Instr.opcode, packAddrWord_eq]

theorem reservedClear_encode (i : Instr) : reservedClear i.opcode.format (encode i) = true := by
  cases i <;> simp [encode, Instr.opcode, Opcode.format, reservedClear, packAddrWord_eq]

theorem operandsOf_encode {i : Instr} (h : i.WellFormed) : operandsOf i.opcode (encode i) = some i := by
  cases i with
  | addRoundKey r =>
    have hr : r.toNat ≤ 10 := of_decide_eq_true h
    simp [encode, Instr.opcode, operandsOf, hr]
  | copy dst src =>
    have hdst : dst ≠ .dout := of_decide_eq_true h
    simp [encode, Instr.opcode, operandsOf, dstOf_code hdst]
  | wrb addr data =>
    have hdata : fieldA (packAddrWord Opcode.wrb.byte data addr) = data := by rw [packAddrWord_eq, fieldA_packWord]
    simp [encode, Instr.opcode, operandsOf, hdata]
  | _ => simp [encode, Instr.opcode, operandsOf]

/-- The word of a well-formed command passes the three decode steps of R64, so it decodes to that command. -/
theorem decode_encode {i : Instr} (h : i.WellFormed) : decode (encode i) = .ok i :=
  decode_eq_ok.2 ⟨i.opcode, by rw [fieldOp_encode, opcodeOf_byte], reservedClear_encode i, operandsOf_encode h⟩

/-! ## From the word to the command and back -/

theorem operandsOf_avalanche_eq_some {w : Word} {i : Instr} :
    operandsOf .avalanche w = some i ↔
      ∃ t, targetOf (fieldB w) = some t ∧ .avalanche (fieldA w) t (fieldC w) = i := by
  rw [operandsOf, Option.map_eq_some_iff]

theorem operandsOf_addRoundKey_eq_some {w : Word} {i : Instr} :
    operandsOf .addRoundKey w = some i ↔ (fieldA w).toNat ≤ 10 ∧ .addRoundKey (fieldA w) = i := by
  simp [operandsOf]

theorem operandsOf_copy_eq_some {w : Word} {i : Instr} :
    operandsOf .copy w = some i ↔
      ∃ dst src, dstOf (fieldA w) = some dst ∧ srcOf (fieldB w) = some src ∧ .copy dst src = i := by
  cases hd : dstOf (fieldA w) <;> cases hs : srcOf (fieldB w) <;> simp [operandsOf, hd, hs]

/-- The operand step of R64 gives a command of its own row, with operands in their restricted sets (R67). -/
theorem wellFormed_opcode_of_operandsOf {o : Opcode} {w : Word} {i : Instr} (h : operandsOf o w = some i) :
    i.WellFormed ∧ i.opcode = o := by
  cases o with
  | avalanche =>
    obtain ⟨t, -, rfl⟩ := operandsOf_avalanche_eq_some.1 h
    exact ⟨rfl, rfl⟩
  | addRoundKey =>
    obtain ⟨hr, rfl⟩ := operandsOf_addRoundKey_eq_some.1 h
    exact ⟨decide_eq_true hr, rfl⟩
  | copy =>
    obtain ⟨dst, src, hdst, -, rfl⟩ := operandsOf_copy_eq_some.1 h
    exact ⟨decide_eq_true (dstOf_eq_some hdst).2, rfl⟩
  | _ => cases h; exact ⟨rfl, rfl⟩

/-- ADDR holds the bytes B and C (R60, R62). -/
theorem packAddrWord_fieldAddr (op a : Byte) (w : Word) :
    packAddrWord op a (fieldAddr w) = packWord op a (fieldB w) (fieldC w) := by
  have byte {k : Nat} (hk : k + 8 ≤ 16) : (fieldAddr w).extractLsb' k 8 = w.extractLsb' (16 + k) 8 := by
    ext j hj
    simp [fieldAddr, show k + j < 16 by omega, Nat.add_assoc]
  rw [packAddrWord_eq, byte (by decide), byte (by decide)]
  rfl

/-- The operands of a word with clear reserved fields hold all that the word's fields A, B and C hold. -/
theorem encode_of_operandsOf {o : Opcode} {w : Word} {i : Instr} (hr : reservedClear o.format w = true)
    (h : operandsOf o w = some i) : encode i = packWord o.byte (fieldA w) (fieldB w) (fieldC w) := by
  cases o with
  | avalanche =>
    obtain ⟨t, ht, rfl⟩ := operandsOf_avalanche_eq_some.1 h
    rw [encode, targetOf_eq_some ht]
  | addRoundKey =>
    obtain ⟨-, rfl⟩ := operandsOf_addRoundKey_eq_some.1 h
    simp_all [encode, reservedClear, Opcode.format]
  | copy =>
    obtain ⟨dst, src, hdst, hsrc, rfl⟩ := operandsOf_copy_eq_some.1 h
    simp_all [encode, reservedClear, Opcode.format, (dstOf_eq_some hdst).1, srcOf_eq_some hsrc]
  | wrb | rdb =>
    cases h
    simp_all [encode, reservedClear, Opcode.format, packAddrWord_fieldAddr]
  | _ =>
    cases h
    simp_all [encode, reservedClear, Opcode.format]

theorem wellFormed_of_decode {w : Word} {i : Instr} (h : decode w = .ok i) : i.WellFormed := by
  obtain ⟨o, -, -, ho⟩ := decode_eq_ok.1 h
  exact (wellFormed_opcode_of_operandsOf ho).1

theorem encode_of_decode {w : Word} {i : Instr} (h : decode w = .ok i) : encode i = w := by
  obtain ⟨o, hop, hr, ho⟩ := decode_eq_ok.1 h
  calc encode i = packWord o.byte (fieldA w) (fieldB w) (fieldC w) := encode_of_operandsOf hr ho
    _ = packWord (fieldOp w) (fieldA w) (fieldB w) (fieldC w) := by rw [opcodeOf_eq_some hop]
    _ = w := packWord_fields w

/-! ## The mask and match test -/

/-- The encoded word meets its row's mask and match, for every command (R63). -/
theorem encode_and_mask (i : Instr) : encode i &&& i.opcode.mask = i.opcode.pattern := by
  cases i with
  | expandKey len => exact Laws.Row.expandKey len
  | encrypt len => exact Laws.Row.encrypt len
  | decrypt len => exact Laws.Row.decrypt len
  | avalanche pos target len => exact Laws.Row.avalanche pos target len
  | sbox b => exact Laws.Row.sbox b
  | invSbox b => exact Laws.Row.invSbox b
  | gfMul c b => exact Laws.Row.gfMul c b
  | hamming => exact Laws.Row.hamming
  | flipBit pos => exact Laws.Row.flipBit pos
  | subBytes => exact Laws.Row.subBytes
  | shiftRows => exact Laws.Row.shiftRows
  | mixColumns => exact Laws.Row.mixColumns
  | addRoundKey r => exact Laws.Row.addRoundKey r
  | invSubBytes => exact Laws.Row.invSubBytes
  | invShiftRows => exact Laws.Row.invShiftRows
  | invMixColumns => exact Laws.Row.invMixColumns
  | wrb addr data => exact Laws.Row.wrb addr data
  | rdb addr => exact Laws.Row.rdb addr
  | copy dst src => exact Laws.Row.copy dst src

/-- A well-formed command's word meets the extra constraint of its row (R63, R67). -/
theorem extra_encode {i : Instr} (h : i.WellFormed) : i.opcode.extra (encode i) = true := by
  cases i with
  | addRoundKey r =>
    have hr : r.toNat ≤ 10 := of_decide_eq_true h
    simpa [encode, Instr.opcode, Opcode.extra] using hr
  | copy dst src =>
    have hdst : dst ≠ .dout := of_decide_eq_true h
    have hcode : dst.code ≠ 3 := by
      cases dst with
      | dout => exact absurd rfl hdst
      | _ => decide
    simpa [encode, Instr.opcode, Opcode.extra] using hcode
  | _ => rfl

/-- The match column fixes OP at the opcode's number and every other field that it speaks of at zero (R63). -/
theorem pattern_eq_packWord (o : Opcode) : o.pattern = packWord o.byte 0x00 0x00 0x00 := by cases o <;> rfl

/-- The mask and match test, field by field. -/
theorem fields_of_and_mask {o : Opcode} {w : Word} (h : w &&& o.mask = o.pattern) :
    fieldOp w &&& fieldOp o.mask = o.byte ∧ fieldA w &&& fieldA o.mask = 0x00 ∧
      fieldB w &&& fieldB o.mask = 0x00 ∧ fieldC w &&& fieldC o.mask = 0x00 := by
  have hword : packWord (fieldOp w &&& fieldOp o.mask) (fieldA w &&& fieldA o.mask) (fieldB w &&& fieldB o.mask)
      (fieldC w &&& fieldC o.mask) = packWord o.byte 0x00 0x00 0x00 := by
    rw [← packWord_and, packWord_fields, packWord_fields, h, pattern_eq_packWord]
  refine ⟨?_, ?_, ?_, ?_⟩
  · simpa using congrArg fieldOp hword
  · simpa using congrArg fieldA hword
  · simpa using congrArg fieldB hword
  · simpa using congrArg fieldC hword

/-- The first decode step of R64 passes where the mask and match test does: every mask covers OP. -/
theorem fieldOp_of_and_mask {o : Opcode} {w : Word} (h : w &&& o.mask = o.pattern) : fieldOp w = o.byte := by
  have hmask : fieldOp o.mask = 0xFF := by cases o <;> rfl
  rw [← (fields_of_and_mask h).1, hmask, byte_and_all]

/-- The second decode step of R64 passes too: the mask covers every field that the format fixes at zero. -/
theorem reservedClear_of_and_mask {o : Opcode} {w : Word} (h : w &&& o.mask = o.pattern) :
    reservedClear o.format w = true := by
  obtain ⟨-, hA, hB, hC⟩ := fields_of_and_mask h
  have zero {x m : Byte} (hx : x &&& m = 0x00) (hm : m = 0xFF) : x = 0x00 := by
    rwa [hm, byte_and_all] at hx
  cases o with
  | avalanche | wrb => rfl
  | rdb => simp [Opcode.format, reservedClear, zero hA rfl]
  | expandKey | encrypt | decrypt => simp [Opcode.format, reservedClear, zero hA rfl, zero hB rfl]
  | gfMul | copy => simp [Opcode.format, reservedClear, zero hC rfl]
  | sbox | invSbox | flipBit | addRoundKey => simp [Opcode.format, reservedClear, zero hB rfl, zero hC rfl]
  | _ => simp [Opcode.format, reservedClear, zero hA rfl, zero hB rfl, zero hC rfl]

theorem isSome_targetOf {b : Byte} (h : b &&& 0xFE = 0x00) : (targetOf b).isSome = true := by
  revert b; decide

theorem isSome_srcOf {b : Byte} (h : b &&& 0xFC = 0x00) : (srcOf b).isSome = true := by
  revert b; decide

theorem isSome_dstOf {b : Byte} (h : b &&& 0xFC = 0x00) (h3 : b ≠ 3) : (dstOf b).isSome = true := by
  revert b; decide

/-- The third decode step of R64 passes where the mask test and the extra constraint do. -/
theorem isSome_operandsOf_of_selects {o : Opcode} {w : Word} (hmask : w &&& o.mask = o.pattern)
    (hextra : o.extra w = true) : (operandsOf o w).isSome = true := by
  obtain ⟨-, hA, hB, -⟩ := fields_of_and_mask hmask
  cases o with
  | avalanche => rw [operandsOf, Option.isSome_map]; exact isSome_targetOf hB
  | addRoundKey => rw [operandsOf, if_pos (of_decide_eq_true hextra)]; rfl
  | copy =>
    obtain ⟨dst, hdst⟩ := Option.isSome_iff_exists.1 (isSome_dstOf hA (by simpa [Opcode.extra] using hextra))
    obtain ⟨src, hsrc⟩ := Option.isSome_iff_exists.1 (isSome_srcOf hB)
    rw [operandsOf_copy_eq_some.2 ⟨dst, src, hdst, hsrc, rfl⟩]
    rfl
  | _ => rfl

/-- R63 and R64 agree: a row selects a word exactly when the word decodes to a command of that row. -/
theorem selects_iff_decode {o : Opcode} {w : Word} :
    o.selects w = true ↔ ∃ i, decode w = .ok i ∧ i.opcode = o := by
  rw [Opcode.selects, Bool.and_eq_true, beq_iff_eq]
  constructor
  · rintro ⟨hmask, hextra⟩
    obtain ⟨i, hi⟩ := Option.isSome_iff_exists.1 (isSome_operandsOf_of_selects hmask hextra)
    have hop : opcodeOf (fieldOp w) = some o := by rw [fieldOp_of_and_mask hmask, opcodeOf_byte]
    exact ⟨i, decode_eq_ok.2 ⟨o, hop, reservedClear_of_and_mask hmask, hi⟩, (wellFormed_opcode_of_operandsOf hi).2⟩
  · rintro ⟨i, hdecode, rfl⟩
    rw [← encode_of_decode hdecode]
    exact ⟨encode_and_mask i, extra_encode (wellFormed_of_decode hdecode)⟩

/-! ## Words that run and words that are illegal -/

theorem runsAs_of_decode {w : Word} {i : Instr} (h : decode w = .ok i) : RunsAs w i :=
  executeWord_ok h

theorem isIllegal_of_decode {w : Word} {e : IllegalWord} (h : decode w = .error e) : IsIllegal w :=
  executeWord_error h

/-- Every well-formed command runs from its word. -/
theorem runsAs_encode {i : Instr} (h : i.WellFormed) : RunsAs (encode i) i := runsAs_of_decode (decode_encode h)

theorem isIllegal_of_opcodeOf {w : Word} (h : opcodeOf (fieldOp w) = none) : IsIllegal w :=
  isIllegal_of_decode (e := .undefinedOpcode) (by rw [decode, h])

/-- A word whose OP is a row's and whose operands are outside that row's sets is illegal (R64 step 3, R67). -/
theorem isIllegal_of_operandsOf {o : Opcode} {w : Word} (hop : fieldOp w = o.byte) (h : operandsOf o w = none) :
    IsIllegal w := by
  cases hdecode : decode w with
  | error e => exact isIllegal_of_decode hdecode
  | ok i =>
    obtain ⟨p, hp, -, hi⟩ := decode_eq_ok.1 hdecode
    rw [hop, opcodeOf_byte] at hp
    cases hp
    simp [h] at hi

theorem targetOf_eq_none {b : Byte} (h : 1 < b.toNat) : targetOf b = none := by
  refine Option.eq_none_iff_forall_ne_some.2 fun t ht => ?_
  rw [← targetOf_eq_some ht] at h
  cases t <;> exact absurd h (by decide)

theorem srcOf_eq_none {b : Byte} (h : 3 < b.toNat) : srcOf b = none := by
  refine Option.eq_none_iff_forall_ne_some.2 fun x hx => ?_
  rw [← srcOf_eq_some hx] at h
  cases x <;> exact absurd h (by decide)

theorem dstOf_eq_none {b : Byte} (h : 2 < b.toNat) : dstOf b = none := by
  refine Option.eq_none_iff_forall_ne_some.2 fun x hx => ?_
  obtain ⟨hcode, hdout⟩ := dstOf_eq_some hx
  rw [← hcode] at h
  cases x with
  | dout => exact hdout rfl
  | _ => exact absurd h (by decide)

/-- COPY's operands are outside their sets as soon as one of them is (R67). -/
theorem operandsOf_copy_eq_none {w : Word} (h : 2 < (fieldA w).toNat ∨ 3 < (fieldB w).toNat) :
    operandsOf .copy w = none := by
  refine Option.eq_none_iff_forall_ne_some.2 fun i hi => ?_
  obtain ⟨dst, src, hdst, hsrc, -⟩ := operandsOf_copy_eq_some.1 hi
  rcases h with hA | hB
  · simp [dstOf_eq_none hA] at hdst
  · simp [srcOf_eq_none hB] at hsrc

/-! ## The word as a number -/

/-- R70's assembly: each field counts from its own bit on. -/
theorem toNat_packWord (op a b c : Byte) :
    (packWord op a b c).toNat = op.toNat + a.toNat * 2 ^ 8 + b.toNat * 2 ^ 16 + c.toNat * 2 ^ 24 := by
  have append {n : Nat} (x : BitVec n) (y : Byte) : (x ++ y).toNat = x.toNat * 2 ^ 8 + y.toNat := by
    rw [BitVec.toNat_append, ← Nat.shiftLeft_add_eq_or_of_lt y.isLt, Nat.shiftLeft_eq]
  rw [packWord, append, append, append]
  omega

/-! ## The obligations -/

/-- Settles O1: the word of a well-formed command passes the three decode steps. -/
theorem decodeOfEncodeIsTheInstruction : Obligations.DecodeOfEncodeIsTheInstruction :=
  fun _ h => decode_encode h

/-- Settles O2: the fields of a word that decodes are the opcode, the operands and zeros that the command encodes to. -/
theorem encodeOfDecodeIsTheWord : Obligations.EncodeOfDecodeIsTheWord :=
  fun _ _ h => ⟨wellFormed_of_decode h, encode_of_decode h⟩

/-- Settles O3: the mask and match test is the three decode steps, and decoding gives one command only. -/
theorem decodeIsTheMaskAndMatchTest : Obligations.DecodeIsTheMaskAndMatchTest := by
  refine ⟨fun w o => selects_iff_decode, fun w o p ho hp => ?_⟩
  obtain ⟨i, hi, rfl⟩ := selects_iff_decode.1 ho
  obtain ⟨j, hj, rfl⟩ := selects_iff_decode.1 hp
  cases hi.symm.trans hj
  rfl

/-- Settles O4: the opcode map has 19 numbers, and a word decodes to a well-formed command or to an error. -/
theorem everyOtherWordIsIllegal : Obligations.EveryOtherWordIsIllegal := by
  refine ⟨by decide +kernel, fun w h => isIllegal_of_opcodeOf h, fun w h => ?_, fun w => ?_, fun s => rfl⟩
  · rcases h with h | h <;> exact isIllegal_of_opcodeOf (by rw [h]; rfl)
  · cases hdecode : decode w with
    | ok i => exact .inl ⟨i, wellFormed_of_decode hdecode, rfl, runsAs_of_decode hdecode⟩
    | error e => exact .inr ⟨⟨e, rfl⟩, isIllegal_of_decode hdecode⟩

/-- Settles O5: outside the restricted sets the operand step fails, and each of the other words is the word of a
well-formed command. -/
theorem restrictedOperandsAreIllegal : Obligations.RestrictedOperandsAreIllegal := by
  refine ⟨fun a b c hb => ?_, fun a ha => ?_, fun a b hab => ?_, fun a c => ⟨?_, ?_⟩, fun a ha => ?_,
    fun dst src hdst => ?_, fun a => ?_, fun c => ⟨?_, ?_, ?_⟩, fun addr d => ⟨?_, ?_⟩, fun a b => ⟨?_, ?_, ?_⟩⟩
  · exact isIllegal_of_operandsOf (o := .avalanche) (by simp [Opcode.byte]) (by simp [operandsOf, targetOf_eq_none hb])
  · exact isIllegal_of_operandsOf (o := .addRoundKey) (by simp [Opcode.byte]) (by simpa [operandsOf] using ha)
  · exact isIllegal_of_operandsOf (o := .copy) (by simp [Opcode.byte]) (operandsOf_copy_eq_none (by simpa using hab))
  · exact runsAs_encode (i := .avalanche a .plaintext c) rfl
  · exact runsAs_encode (i := .avalanche a .key c) rfl
  · exact runsAs_encode (i := .addRoundKey a) (decide_eq_true ha)
  · exact runsAs_encode (i := .copy dst src) (decide_eq_true hdst)
  · exact runsAs_encode (i := .flipBit a) rfl
  · exact runsAs_encode (i := .expandKey c) rfl
  · exact runsAs_encode (i := .encrypt c) rfl
  · exact runsAs_encode (i := .decrypt c) rfl
  · exact runsAs_encode (i := .wrb addr d) rfl
  · exact runsAs_encode (i := .rdb addr) rfl
  · exact runsAs_encode (i := .gfMul b a) rfl
  · exact runsAs_encode (i := .sbox a) rfl
  · exact runsAs_encode (i := .invSbox a) rfl

/-- Settles O6: each example word is the word of its command, and `toNat_packWord` is the assembly rule. -/
theorem specExampleWordsDecode : Obligations.SpecExampleWordsDecode := by
  have example_word {w : Word} (i : Instr) (hword : encode i = w) (h : i.WellFormed) : decode w = .ok i :=
    hword ▸ decode_encode h
  refine ⟨?_, ?_, ?_, ?_, ?_, ?_, ?_, ?_, ?_, ?_, ?_, ?_, ?_, ?_, ?_, ?_, ?_, ?_, ?_, toNat_packWord⟩
  all_goals exact example_word _ rfl rfl

end Sys2Proof.Machine
end

section
/-! PROOFS. The response to a command word (30_encoding.md R68), and what the command lists of the pseudo-instructions do
(R71). -/

namespace Sys2Proof.Machine

/-! ## The response to a command -/

/-- The answer `q` of a command in `s` is a next state with one response more, and that response carries `d`. -/
def RespondsWithData (s : State) (d : Byte) (q : Result) : Prop :=
  ∃ (t : State) (r : Response), q = .next t ∧ t.responses = s.responses ++ [r] ∧ r.data = d

theorem respondsWithData_raise (s : State) (e : CmdError) : RespondsWithData s 0x00 (raise e s) :=
  ⟨_, _, raise_eq e s, rfl, rfl⟩

theorem respondsWithData_completeWith {s t : State} (h : t.responses = s.responses) (d : Byte) :
    RespondsWithData s d (completeWith d t) :=
  ⟨_, okResponse d, completeWith_eq d t, by rw [State.respond_responses, h], rfl⟩

theorem respondsWithData_complete {s t : State} (h : t.responses = s.responses) :
    RespondsWithData s 0x00 (complete t) := respondsWithData_completeWith h 0x00

theorem respondsWithData_ite {s : State} {d : Byte} {c : Prop} [Decidable c] {q q' : Result}
    (hq : RespondsWithData s d q) (hq' : RespondsWithData s d q') :
    RespondsWithData s d (if c then q else q') := by
  split
  · exact hq
  · exact hq'

/-- The data of the response to a command: RDB alone gives the byte read, if the address is mapped (R68, R171). -/
def responseData (i : Instr) (s : State) : Byte :=
  match i with
  | .rdb a => (memRead a s).getD 0x00
  | _ => 0x00

theorem respondsWithData_wrb (addr : Addr) (data : Byte) (s : State) :
    RespondsWithData s 0x00 (execWrb addr data s) := by
  rw [execWrb]
  cases h : memWrite addr data s with
  | some t => exact respondsWithData_complete (framedBy_memWrite h).responses
  | none => exact respondsWithData_raise s _

theorem respondsWithData_rdb (addr : Addr) (s : State) :
    RespondsWithData s ((memRead addr s).getD 0x00) (execRdb addr s) := by
  rw [execRdb]
  cases memRead addr s with
  | some v => exact respondsWithData_completeWith rfl v
  | none => exact respondsWithData_raise s _

theorem respondsWithData_copy (dst src : Buf) (s : State) : RespondsWithData s 0x00 (execCopy dst src s) := by
  rw [execCopy]
  cases h : writeBuffer dst (readBuffer src s) s with
  | some t => exact respondsWithData_complete (framedBy_writeBuffer h).responses
  | none => exact respondsWithData_raise s _

/-- Every command responds with its data, 0x00 for all but RDB (R68). -/
theorem exec_respondsWithData (i : Instr) (s : State) : RespondsWithData s (responseData i s) (exec i s) := by
  have raises (e : CmdError) := respondsWithData_raise s e
  have writesRes (b : Byte) := respondsWithData_complete (s := s) (t := s.setRes b) rfl
  have writesDout (x : Block) := respondsWithData_complete (s := s) (t := s.setDout x) rfl
  have writesRk (w : ExpandedKey) := respondsWithData_complete (s := s) (t := s.setRk w) rfl
  have writesAvr (v : Vector AvrEntry 11) := respondsWithData_complete (s := s) (t := s.setAvr v) rfl
  cases i with
  | expandKey => exact respondsWithData_ite (writesRk _) (raises _)
  | encrypt | decrypt | flipBit | addRoundKey => exact respondsWithData_ite (writesDout _) (raises _)
  | avalanche => exact respondsWithData_ite (respondsWithData_ite (writesAvr _) (raises _)) (raises _)
  | sbox | invSbox | gfMul | hamming => exact writesRes _
  | subBytes | shiftRows | mixColumns | invSubBytes | invShiftRows | invMixColumns => exact writesDout _
  | wrb addr data => exact respondsWithData_wrb addr data s
  | rdb addr => exact respondsWithData_rdb addr s
  | copy dst src => exact respondsWithData_copy dst src s

/-- The response to a command: the code of the error it raises, or 0, and its data (R68). -/
def responseTo (i : Instr) (s : State) : Response :=
  ⟨((errorOf i).map CmdError.code).getD 0, responseData i s⟩

/-- Every command answers a next state with its one response more and the port as it was (R68). -/
theorem exec_responds (i : Instr) (s : State) :
    ∃ t, exec i s = .next t ∧ t.responses = s.responses ++ [responseTo i s] ∧ t.pending = s.pending := by
  obtain ⟨t, r, hexec, hresponses, hdata⟩ := exec_respondsWithData i s
  suffices h : r.err = ((errorOf i).map CmdError.code).getD 0 ∧ t.pending = s.pending from
    ⟨t, hexec, by rw [hresponses, responseTo, ← h.1, ← hdata], h.2⟩
  obtain ⟨e, herr, rfl⟩ | ⟨herr, u, d, hframe, rfl⟩ := exec_next_cases hexec
  · have hr : errorResponse e = r := by simpa using hresponses
    exact ⟨by rw [herr, ← hr]; rfl, rfl⟩
  · have hr : okResponse d = r := by simpa [hframe.responses] using hresponses
    exact ⟨by rw [herr, ← hr]; rfl, hframe.pending⟩

/-! ## Runs of commands that all answer -/

/-- The bytes of `h` at the places `l`, stored over `x` one after another. -/
def storeAt {n : Nat} (h : Vector Byte n) (l : List (Fin n)) (x : Vector Byte n) : Vector Byte n :=
  l.foldl (fun y (i : Fin n) => y.set i h[i]) x

theorem storeAt_get {n : Nat} (h : Vector Byte n) (l : List (Fin n)) (x : Vector Byte n) (j : Fin n) :
    (storeAt h l x)[j] = if j ∈ l then h[j] else x[j] := by
  induction l generalizing x with
  | nil => simp [storeAt]
  | cons i l ih =>
    rw [storeAt, List.foldl_cons, ← storeAt, ih]
    by_cases hij : i = j
    · simp [hij]
    · have hne : i.val ≠ j.val := fun e => hij (Fin.ext e)
      simp [Vector.getElem_set_ne _ _ hne, Ne.symm hij]

/-- Storing every byte of `h` at its own place leaves `h`, whatever was there. -/
theorem storeAt_finRange {n : Nat} (h x : Vector Byte n) : storeAt h (List.finRange n) x = h :=
  Vector.ext fun j hj => by simpa using storeAt_get h (List.finRange n) x ⟨j, hj⟩

/-- Commands that each store one byte of `h` in the buffer of `hold x rs`, the state that holds `x` there and has given
the responses `rs`. -/
theorem execAll_stores {n : Nat} {f : Fin n → Instr} {h : Vector Byte n}
    {hold : Vector Byte n → List Response → State}
    (hf : ∀ i x rs, exec (f i) (hold x rs) = .next (hold (x.set i h[i]) (rs ++ [okResponse 0x00])))
    (l : List (Fin n)) (x : Vector Byte n) (rs : List Response) :
    execAll (l.map f) (hold x rs) =
      .next (hold (storeAt h l x) (rs ++ List.replicate l.length (okResponse 0x00))) := by
  induction l generalizing x rs with
  | nil => simp [execAll, storeAt]
  | cons i l ih => simp [execAll, hf, ih, storeAt, List.replicate_succ]

/-- A load: one such command for every byte leaves `h` in the buffer (R71). -/
theorem execAll_load {n : Nat} {f : Fin n → Instr} {h : Vector Byte n} (hold : Vector Byte n → List Response → State)
    (hf : ∀ i x rs, exec (f i) (hold x rs) = .next (hold (x.set i h[i]) (rs ++ [okResponse 0x00])))
    (x : Vector Byte n) (rs : List Response) :
    execAll ((List.finRange n).map f) (hold x rs) =
      .next (hold h (rs ++ List.replicate n (okResponse 0x00))) := by
  rw [execAll_stores hf, storeAt_finRange, List.length_finRange]

/-- WRB at a location the host may write completes with the byte written there (R170). -/
theorem exec_wrb_address {l : Location} {v : Byte} {s t : State} (h : writeAt l v s = some t) :
    exec (.wrb l.address v) s = .next (t.respond (okResponse 0x00)) := by
  have hwrite : memWrite l.address v s = some t := by rw [memWrite, locate_address, Option.bind_some, h]
  change execWrb l.address v s = _
  rw [execWrb, hwrite, ← complete_eq]

/-- RDB at a location's address answers the byte held there (R171). -/
theorem exec_rdb_address (l : Location) (s : State) :
    exec (.rdb l.address) s = .next (s.respond (okResponse (readAt l s))) := by
  change execRdb l.address s = _
  rw [execRdb, memRead_address, ← completeWith_eq]

/-- Reading one location after another answers their bytes in that order and changes nothing else (R71). -/
theorem execAll_rdb (ls : List Location) (s : State) :
    execAll (ls.map fun l => .rdb l.address) s =
      .next { s with responses := s.responses ++ ls.map fun l => okResponse (readAt l s) } := by
  induction ls generalizing s with
  | nil => simp [execAll]
  | cons l ls ih =>
    simp only [List.map_cons, execAll, exec_rdb_address, ih, readAt_respond, State.respond_responses,
      List.append_assoc, List.singleton_append]
    rfl

/-- A list of RDBs at the addresses from `base` on, as the map names them. -/
theorem map_rdb_range {n base : Nat} (loc : Fin n → Location)
    (hloc : ∀ i, (loc i).address = BitVec.ofNat 16 (base + i.val)) :
    ((List.range n).map fun i => Instr.rdb (BitVec.ofNat 16 (base + i))) =
      ((List.finRange n).map loc).map fun l => .rdb l.address := by
  rw [← List.map_coe_finRange_eq_range, List.map_map, List.map_map]
  exact List.map_congr_left fun i _ => by simp [hloc]

/-- The bytes of a vector, listed by index. -/
theorem map_finRange_getElem {α β : Type} {n : Nat} (x : Vector α n) (g : α → β) :
    ((List.finRange n).map fun i => g x[i]) = x.toList.map g := by
  apply List.ext_getElem <;> simp

/-- The bytes of the avalanche record, entry by entry. -/
theorem map_flatMap_finRange_avr (s : State) :
    (((List.finRange 11).flatMap fun i => [Location.avrRound i, .avrCount i]).map fun l => okResponse (readAt l s)) =
      s.avr.toList.flatMap fun e => [⟨0, e.round⟩, ⟨0, e.count⟩] := by
  rw [List.map_flatMap, List.flatMap, List.flatMap, ← map_finRange_getElem]
  rfl

/-- RDAVR reads the rounds and counts of the entries in turn (R46, R71). -/
theorem rdavr_eq :
    rdavr = ((List.finRange 11).flatMap fun i => [Location.avrRound i, .avrCount i]).map fun l => .rdb l.address := by
  decide

/-! ## The obligations -/

/-- Settles O14: a word that decodes is answered with its command's response, any other with that of IllegalCommand. -/
theorem oneResponsePerCommand : Obligations.OneResponsePerCommand := by
  intro w s
  rw [step_presentWord]
  cases hdecode : decode w with
  | error e => exact ⟨_, _, executeWord_error hdecode s, rfl, rfl, by simp, by simp, by simp, by simp, by simp⟩
  | ok i =>
    obtain ⟨t, hexec, hresponses, hpending⟩ := exec_responds i s
    refine ⟨t, responseTo i s, (executeWord_ok hdecode s).trans hexec, hresponses, hpending, ?_, ?_, by simp, ?_, ?_⟩
    · rintro _ ⟨⟩ herr
      simp [responseTo, herr]
    · rintro _ e ⟨⟩ herr
      simp [responseTo, herr]
    · rintro a v ⟨⟩ hread
      simp [responseTo, responseData, hread]
    · intro hnone
      cases i with
      | rdb a =>
        have hread : memRead a s = none := Option.eq_none_iff_forall_ne_some.2 fun v => hnone a v rfl
        simp [responseTo, responseData, hread]
      | _ => rfl

/-- Settles O59: a load stores every byte of its operand at its own place, and a read answers location after location. -/
theorem pseudoInstructionsLoadAndRead : Obligations.PseudoInstructionsLoadAndRead := by
  refine ⟨fun h s => ⟨?_, ?_, ?_⟩, fun h s => ?_, fun s => ⟨?_, ?_, ?_, ?_, ?_⟩, by decide, by decide, by decide⟩
  · exact execAll_load (fun x rs => { s with keyin := x, responses := rs })
      (fun i _ _ => exec_wrb_address (l := .keyin i) rfl) s.keyin s.responses
  · exact execAll_load (fun x rs => { s with din := x, responses := rs })
      (fun i _ _ => exec_wrb_address (l := .din i) rfl) s.din s.responses
  · exact execAll_load (fun x rs => { s with ref := x, responses := rs })
      (fun i _ _ => exec_wrb_address (l := .ref i) rfl) s.ref s.responses
  · exact execAll_load (fun x rs => { s with rk := x, responses := rs })
      (fun i _ _ => exec_wrb_address (l := .rk i) rfl) s.rk s.responses
  · rw [rdblk, map_rdb_range .dout fun _ => rfl, execAll_rdb, List.map_map, ← map_finRange_getElem]
    rfl
  · rw [rdrk, map_rdb_range .rk fun _ => rfl, execAll_rdb, List.map_map, ← map_finRange_getElem]
    rfl
  · rw [rdavr_eq, execAll_rdb, map_flatMap_finRange_avr]
  · exact exec_rdb_address .res s
  · exact exec_rdb_address .status s

end Sys2Proof.Machine
end

section
/-! PROOFS. The Galois-field unit (40_gf_arithmetic.md): the multiplier is that of the polynomials modulo m(x) (R80 to
R82), whence the laws of R83; the printed tables (R84 to R87); the unit-access commands (R88 to R90). -/

namespace Sys2Proof.Machine

open Polynomial

/-! ## Bytes as polynomials (R80) -/

theorem coeff_bytePoly (b : Byte) (k : Nat) : (bytePoly b).coeff k = if b.getLsbD k then 1 else 0 := by
  have coeff_term (j : Nat) : (if b.getLsbD j then (X : (ZMod 2)[X]) ^ j else 0).coeff k =
      if k = j then (if b.getLsbD k then 1 else 0) else 0 := by
    by_cases hj : k = j
    · subst hj; split <;> simp
    · split <;> simp [coeff_X_pow, hj]
  simp only [bytePoly, finsetSum_coeff, coeff_term, Finset.sum_ite_eq, Finset.mem_range]
  by_cases hk : k < 8
  · rw [if_pos hk]
  · rw [if_neg hk, BitVec.getLsbD_of_ge b k (by omega)]; rfl

theorem bytePoly_injective : Function.Injective bytePoly := by
  intro a b h
  apply BitVec.eq_of_getLsbD_eq
  intro k _
  have bit_injective : ∀ x y : Bool, (if x then 1 else 0 : ZMod 2) = (if y then 1 else 0) → x = y := by decide
  exact bit_injective _ _ (by rw [← coeff_bytePoly, ← coeff_bytePoly, h])

theorem degree_bytePoly_lt (b : Byte) : (bytePoly b).degree < 8 :=
  (degree_lt_iff_coeff_zero _ 8).2 fun k hk => by simp [coeff_bytePoly, BitVec.getLsbD_of_ge b k hk]

theorem bytePoly_zero : bytePoly 0#8 = 0 := by
  ext k; simp [coeff_bytePoly]

theorem bytePoly_one : bytePoly 1#8 = 1 := by
  ext k; simp [coeff_bytePoly, coeff_one, BitVec.getLsbD_one]

theorem bytePoly_xor (a b : Byte) : bytePoly (a ^^^ b) = bytePoly a + bytePoly b := by
  ext k
  rw [coeff_add, coeff_bytePoly, coeff_bytePoly, coeff_bytePoly, BitVec.getLsbD_xor]
  cases a.getLsbD k <;> cases b.getLsbD k <;> decide

/-- Horner's rule on the bits: the lowest bit is the constant coefficient. -/
theorem bytePoly_eq_X_mul_ushiftRight (b : Byte) :
    bytePoly b = X * bytePoly (b >>> 1) + if b.getLsbD 0 then 1 else 0 := by
  ext k
  cases k with
  | zero => split <;> simp_all [coeff_bytePoly]
  | succ k => split <;> simp [coeff_bytePoly, coeff_one, Nat.add_comm 1]

/-- The bit that leaves the byte when it is shifted is the coefficient of x^8. -/
theorem X_mul_bytePoly (b : Byte) :
    X * bytePoly b = bytePoly (b <<< 1) + if b.getLsbD 7 then X ^ 8 else 0 := by
  ext k
  cases k with
  | zero => cases b.getLsbD 7 <;> simp [coeff_bytePoly]
  | succ k =>
    rw [coeff_X_mul, coeff_add, coeff_bytePoly, coeff_bytePoly, BitVec.getLsbD_shiftLeft]
    rcases Nat.lt_trichotomy k 7 with hk | rfl | hk
    · cases b.getLsbD 7 <;> simp [coeff_X_pow, hk.ne, show k + 1 < 8 by omega]
    · cases b.getLsbD 7 <;> simp
    · cases b.getLsbD 7 <;> simp [coeff_X_pow, hk.ne', BitVec.getLsbD_of_ge b k hk, show ¬ k + 1 < 8 by omega]

/-- 0x1B is m(x) without its leading term (R80, R81). -/
theorem fieldPoly_eq : fieldPoly = X ^ 8 + bytePoly 0x1B := by
  simp [fieldPoly, bytePoly, Finset.sum_range_succ]
  ring

theorem degree_fieldPoly : fieldPoly.degree = 8 := by
  have hlower : (bytePoly 0x1B).degree < (X ^ 8 : (ZMod 2)[X]).degree := by
    rw [degree_X_pow]; exact degree_bytePoly_lt _
  rw [fieldPoly_eq, degree_add_eq_left_of_degree_lt hlower, degree_X_pow]
  rfl

/-! ## Bytes as field elements (R80 to R82) -/

/-- The residue class modulo m(x) that a byte stands for (R80). -/
noncomputable def fieldElem (b : Byte) : AdjoinRoot fieldPoly := AdjoinRoot.mk fieldPoly (bytePoly b)

@[simp] theorem fieldElem_zero : fieldElem 0#8 = 0 := by rw [fieldElem, bytePoly_zero, map_zero]

@[simp] theorem fieldElem_one : fieldElem 1#8 = 1 := by rw [fieldElem, bytePoly_one, map_one]

@[simp] theorem fieldElem_xor (a b : Byte) : fieldElem (a ^^^ b) = fieldElem a + fieldElem b := by
  rw [fieldElem, bytePoly_xor, map_add, fieldElem, fieldElem]

/-- Two polynomials of degree below 8 that agree modulo m(x) are equal. -/
theorem fieldElem_injective : Function.Injective fieldElem := by
  intro a b h
  have hdvd : fieldPoly ∣ bytePoly a - bytePoly b := AdjoinRoot.mk_eq_mk.1 h
  have hdegree : (bytePoly a - bytePoly b).degree < fieldPoly.degree := by
    rw [degree_fieldPoly]
    exact (degree_sub_le _ _).trans_lt (max_lt (degree_bytePoly_lt a) (degree_bytePoly_lt b))
  exact bytePoly_injective (sub_eq_zero.1 (eq_zero_of_dvd_of_degree_lt hdvd hdegree))

theorem fieldElem_eq_root_mul_ushiftRight (b : Byte) :
    fieldElem b = AdjoinRoot.root fieldPoly * fieldElem (b >>> 1) + if b.getLsbD 0 then 1 else 0 := by
  rw [fieldElem, bytePoly_eq_X_mul_ushiftRight, map_add, map_mul, AdjoinRoot.mk_X, ← fieldElem]
  split <;> simp

/-- Doubling is multiplication by x: the bit that leaves the byte is x^8, and x^8 is 0x1B modulo m(x) (R81). -/
theorem fieldElem_xtime (b : Byte) : fieldElem (xtime b) = AdjoinRoot.root fieldPoly * fieldElem b := by
  have hreduce : X * bytePoly b - bytePoly (xtime b) = if b.getLsbD 7 then fieldPoly else 0 := by
    rw [X_mul_bytePoly, xtime]
    split
    · rw [bytePoly_xor, fieldPoly_eq, ← CharTwo.sub_eq_add (X ^ 8) (bytePoly 0x1B)]; ring
    · ring
  rw [← AdjoinRoot.mk_X, fieldElem, fieldElem, ← map_mul, eq_comm, AdjoinRoot.mk_eq_mk, hreduce]
  split
  · exact dvd_rfl
  · exact dvd_zero _

/-- The invariant of R82's loop: the last `n` turns add to `r` the product of `t` with the upper `n` bits of `c`. -/
theorem fieldElem_gmulLoop (c : Byte) {n : Nat} (hn : n ≤ 8) (r t : Byte) :
    fieldElem (gmulLoop c n r t) = fieldElem r + fieldElem (c >>> (8 - n)) * fieldElem t := by
  induction n generalizing r t with
  | zero => simp [gmulLoop, BitVec.ushiftRight_eq_zero]
  | succ n ih =>
    have hbits : (c >>> (7 - n)) >>> 1 = c >>> (8 - n) := by
      rw [← BitVec.shiftRight_add, show 7 - n + 1 = 8 - n by omega]
    have hbit : (c >>> (7 - n)).getLsbD 0 = c.getLsbD (7 - n) := by simp
    rw [gmulLoop, ih (by omega), fieldElem_xtime, show 8 - (n + 1) = 7 - n by omega,
      fieldElem_eq_root_mul_ushiftRight (c >>> (7 - n)), hbits, hbit]
    split
    · rw [fieldElem_xor]; ring
    · ring

@[simp] theorem fieldElem_gmul (a b : Byte) : fieldElem (gmul a b) = fieldElem a * fieldElem b := by
  simp [gmul, fieldElem_gmulLoop a (le_refl 8)]

/-! ## The laws of multiplication (R83) -/

theorem zero_gmul (b : Byte) : gmul 0x00 b = 0x00 := fieldElem_injective (by simp)

theorem one_gmul (b : Byte) : gmul 0x01 b = b := fieldElem_injective (by simp)

theorem gmul_comm (a b : Byte) : gmul a b = gmul b a := fieldElem_injective (by simp [mul_comm])

theorem gmul_zero (b : Byte) : gmul b 0x00 = 0x00 := by rw [gmul_comm, zero_gmul]

theorem gmul_one (b : Byte) : gmul b 0x01 = b := by rw [gmul_comm, one_gmul]

theorem gmul_assoc (a b c : Byte) : gmul (gmul a b) c = gmul a (gmul b c) :=
  fieldElem_injective (by simp [mul_assoc])

theorem gmul_xor (a b c : Byte) : gmul a (b ^^^ c) = gmul a b ^^^ gmul a c :=
  fieldElem_injective (by simp [mul_add])

/-- R85's affine map, undone. -/
def affineInverse (y : Byte) : Byte := y.rotateLeft 1 ^^^ y.rotateLeft 3 ^^^ y.rotateLeft 6 ^^^ 0x05

/-- The byte whose image under R85's affine map the S-box holds for `b`: the inverse of `b`, and 0x00 for 0x00. -/
def fieldInverse (b : Byte) : Byte := affineInverse (sbox b)

theorem fieldInverse_zero : fieldInverse 0x00 = 0x00 := rfl

theorem gmul_fieldInverse {b : Byte} (h : b ≠ 0x00) : gmul b (fieldInverse b) = 0x01 := by
  revert b; decide +kernel

/-- A factor with an inverse cancels. -/
theorem gmul_left_cancel {a b c : Byte} (ha : a ≠ 0x00) (h : gmul a b = gmul a c) : b = c := by
  have cancel (x : Byte) : gmul (fieldInverse a) (gmul a x) = x := by
    rw [← gmul_assoc, gmul_comm (fieldInverse a), gmul_fieldInverse ha, one_gmul]
  rw [← cancel b, h, cancel c]

/-! ## The printed tables (R84 to R87) -/

theorem affine_affineInverse (y : Byte) :
    affineInverse y ^^^ (affineInverse y).rotateLeft 1 ^^^ (affineInverse y).rotateLeft 2 ^^^
      (affineInverse y).rotateLeft 3 ^^^ (affineInverse y).rotateLeft 4 ^^^ 0x63 = y := by
  revert y; decide +kernel

theorem invSbox_sbox (x : Byte) : invSbox (sbox x) = x := by revert x; decide +kernel

theorem sbox_invSbox (x : Byte) : sbox (invSbox x) = x := by revert x; decide +kernel

theorem sbox_ne_self (x : Byte) : sbox x ≠ x := by revert x; decide +kernel

theorem sbox_ne_complement (x : Byte) : sbox x ≠ x ^^^ 0xFF := by revert x; decide +kernel

/-! ## Words with a reserved field that is not zero (R64, R65) -/

theorem isIllegal_of_reservedClear {o : Opcode} {w : Word} (hop : fieldOp w = o.byte)
    (h : reservedClear o.format w = false) : IsIllegal w :=
  isIllegal_of_decode (e := .reservedField) (by simp [decode, hop, h])

/-- In format A the fields B and C are reserved (R61). -/
theorem isIllegal_of_formatA {o : Opcode} (ho : o.format = .a) {a b c : Byte} (h : b ≠ 0x00 ∨ c ≠ 0x00) :
    IsIllegal (packWord o.byte a b c) :=
  isIllegal_of_reservedClear (o := o) (by simp) (by simpa [ho, reservedClear, imp_iff_not_or] using h)

/-- In format AB the field C is reserved (R61). -/
theorem isIllegal_of_formatAB {o : Opcode} (ho : o.format = .ab) {a b c : Byte} (h : c ≠ 0x00) :
    IsIllegal (packWord o.byte a b c) :=
  isIllegal_of_reservedClear (o := o) (by simp) (by simpa [ho, reservedClear] using h)

/-! ## The obligations -/

/-- Settles O22: `gmul` and the product of the polynomials are the same residue class modulo m(x). -/
theorem gmulIsThePolynomialProduct : Obligations.GmulIsThePolynomialProduct := by
  refine ⟨fun a b h => bytePoly_injective h, bytePoly_xor, fun a b => ?_⟩
  rw [← AdjoinRoot.mk_eq_mk, map_mul]
  exact (fieldElem_gmul a b).symm

/-- Settles O23: bytes embed in the polynomials modulo m(x), whose laws they inherit; the S-box holds an
inverse of every byte but 0x00 (R85), which cancels. -/
theorem fieldLaws : Obligations.FieldLaws := by
  refine ⟨fun b => ⟨zero_gmul b, gmul_zero b, one_gmul b, gmul_one b⟩, gmul_comm, fun a b c => (gmul_assoc a b c).symm,
    gmul_xor, fun a b h => ?_, fun a ha => ⟨fieldInverse a, gmul_fieldInverse ha, fun c hc => ?_⟩, fun b => ?_⟩
  · exact or_iff_not_imp_left.2 fun ha => gmul_left_cancel ha (h.trans (gmul_zero a).symm)
  · exact gmul_left_cancel ha (hc.trans (gmul_fieldInverse ha).symm)
  · rw [zero_gmul]; decide

/-- Settles O24: each table by evaluation over the 256 bytes. -/
theorem tablesHoldTheProducts : Obligations.TablesHoldTheProducts := by
  refine fun b => ⟨?_, ?_, ?_, ?_, ?_, ?_⟩ <;> revert b <;> decide +kernel

/-- Settles O25: the byte that the affine map takes to the S-box entry is the inverse of every byte but 0x00. -/
theorem sboxIsAffineOfInverse : Obligations.SboxIsAffineOfInverse := by
  intro b
  refine ⟨fieldInverse b, ?_, (affine_affineInverse (sbox b)).symm⟩
  by_cases hb : b = 0x00
  · exact .inl ⟨hb, by rw [hb, fieldInverse_zero]⟩
  · exact .inr (gmul_fieldInverse hb)

/-- Settles O26: each table undoes the other. -/
theorem substitutionTablesAreInverse : Obligations.SubstitutionTablesAreInverse := by
  refine ⟨fun x => ⟨invSbox_sbox x, sbox_invSbox x⟩, fun x y => ⟨?_, ?_⟩, fun x => ⟨sbox_ne_self x, sbox_ne_complement x⟩,
    rfl, rfl, rfl, rfl, rfl⟩
  · rintro rfl; exact sbox_invSbox y
  · rintro rfl; exact invSbox_sbox x

/-- Settles O27: the operand is field A; B and C are reserved. -/
theorem sboxWritesRes : Obligations.SboxWritesRes :=
  ⟨fun _ _ => complete_eq _, fun b => runsAs_encode (i := .sbox b) rfl,
    fun _ _ _ => isIllegal_of_formatA (o := .sbox) rfl, rfl, rfl, rfl⟩

/-- Settles O28: the operand is field A; B and C are reserved. -/
theorem invSboxWritesRes : Obligations.InvSboxWritesRes :=
  ⟨fun _ _ => complete_eq _, fun b => runsAs_encode (i := .invSbox b) rfl,
    fun _ _ _ => isIllegal_of_formatA (o := .invSbox) rfl, rfl, rfl, rfl, rfl⟩

/-- Settles O29: the operands are the fields B and A; C is reserved; the corner cases are laws of R83. -/
theorem gfmulWritesRes : Obligations.GfmulWritesRes :=
  ⟨fun _ _ _ => complete_eq _, fun b c => runsAs_encode (i := .gfMul c b) rfl,
    fun _ _ _ => isIllegal_of_formatAB (o := .gfMul) rfl,
    fun c b => ⟨zero_gmul b, gmul_zero c, one_gmul b, gmul_comm c b⟩, rfl, rfl, rfl, rfl⟩

end Sys2Proof.Machine
end

section
/-! PROOFS. The key expansion engine (41_key_schedule.md): the word functions (R101 to R103), the recurrence of the
schedule (R104), the round keys one from another (R105, R107), and EXPANDKEY (R106). -/

namespace Sys2Proof.Machine

/-! ## The words of the schedule (R104) -/

/-- Word `j` of the schedule, for `j` in 0..43 (R45, R104). -/
def scheduleWord (k : Block) (j : Nat) : Column := (scheduleWords k).getD j ⟨0, 0, 0, 0⟩

/-- In the list of four words and those made from them, every made word comes from the words four places and one place
back. -/
theorem getD_wordsFrom {n m : Nat} (hm : m < n) (j : Nat) (a b c d z : Column) :
    (wordsFrom n j a b c d).getD m z =
      nextWord (m + j) ((a :: b :: c :: d :: wordsFrom n j a b c d).getD m z)
        ((d :: wordsFrom n j a b c d).getD m z) := by
  induction n generalizing m j a b c d with
  | zero => omega
  | succ n ih =>
    cases m with
    | zero => rw [Nat.zero_add]; rfl
    | succ m =>
      rw [show m + 1 + j = m + (j + 1) by omega]
      exact ih (by omega) (j + 1) b c d (nextWord j a d)

theorem scheduleWord_add_four (k : Block) {m : Nat} (hm : m < 40) :
    scheduleWord k (m + 4) = nextWord (m + 4) (scheduleWord k m) (scheduleWord k (m + 3)) :=
  getD_wordsFrom hm 4 (columnOf k 0) (columnOf k 1) (columnOf k 2) (columnOf k 3) ⟨0, 0, 0, 0⟩

/-- The first four words are the key's (R104). -/
theorem scheduleWord_key (k : Block) (c : Fin 4) : scheduleWord k c.val = columnOf k c := by
  fin_cases c <;> rfl

/-- Bytes 4j to 4j + 3 of the expanded key are word `j` (R45). -/
theorem expandKey_word (k : Block) (j : Nat) (hj : j < 44) :
    (⟨(expandKey k)[4 * j], (expandKey k)[4 * j + 1], (expandKey k)[4 * j + 2], (expandKey k)[4 * j + 3]⟩ : Column) =
      scheduleWord k j := by
  have quotient (r : Nat) (hr : r < 4) : (4 * j + r) / 4 = j := by omega
  have remainder (r : Nat) (hr : r < 4) : (4 * j + r) % 4 = r := by omega
  simp [expandKey_get, quotient, remainder, Column.byte, scheduleWord]

/-- A word that starts a round key is the special one (R104). -/
theorem nextWord_four_mul (i : Nat) (back4 prev : Column) :
    nextWord (4 * i) back4 prev = xorColumn back4 (specialWord i prev) := by
  simp [nextWord]

theorem nextWord_of_mod_ne_zero {j : Nat} (hj : j % 4 ≠ 0) (back4 prev : Column) :
    nextWord j back4 prev = xorColumn back4 prev := by
  simp [nextWord, hj]

/-! ## The round keys (R105) -/

/-- Column `c` of round key `i` is word 4i + c (R105). -/
theorem columnOf_roundKey_expandKey (k : Block) {i : Nat} (hi : i ≤ 10) (c : Fin 4) :
    columnOf (roundKey (expandKey k) i) c = scheduleWord k (4 * i + c.val) := by
  rw [← expandKey_word k (4 * i + c.val) (by omega), columnOf]
  simp only [roundKey_get _ _ _ hi, Nat.mul_add, ← Nat.mul_assoc, Nat.add_assoc, Nat.reduceMul]

/-- Round key 0 is the key (R105). -/
theorem roundKey_expandKey_zero (k : Block) : roundKey (expandKey k) 0 = k :=
  block_eq_of_columns fun c => by
    rw [columnOf_roundKey_expandKey k (Nat.zero_le 10), Nat.mul_zero, Nat.zero_add, scheduleWord_key]

/-- The first column of a round key is made with the round constant (R105). -/
theorem columnOf_roundKey_succ_zero (k : Block) {i : Nat} (hi : i < 10) :
    columnOf (roundKey (expandKey k) (i + 1)) 0 =
      xorColumn (columnOf (roundKey (expandKey k) i) 0)
        (specialWord (i + 1) (columnOf (roundKey (expandKey k) i) 3)) := by
  rw [columnOf_roundKey_expandKey k hi.le, columnOf_roundKey_expandKey k hi.le, columnOf_roundKey_expandKey k hi]
  calc scheduleWord k (4 * i + 4)
      = nextWord (4 * (i + 1)) (scheduleWord k (4 * i)) (scheduleWord k (4 * i + 3)) :=
        scheduleWord_add_four k (by omega)
    _ = xorColumn (scheduleWord k (4 * i)) (specialWord (i + 1) (scheduleWord k (4 * i + 3))) :=
        nextWord_four_mul (i + 1) _ _

/-- Each other column of a round key is made from the column before it (R105). -/
theorem columnOf_roundKey_succ_succ (k : Block) {i : Nat} (hi : i < 10) (c : Fin 3) :
    columnOf (roundKey (expandKey k) (i + 1)) c.succ =
      xorColumn (columnOf (roundKey (expandKey k) i) c.succ)
        (columnOf (roundKey (expandKey k) (i + 1)) c.castSucc) := by
  simp only [columnOf_roundKey_expandKey k hi.le, columnOf_roundKey_expandKey k hi, Fin.val_succ, Fin.val_castSucc]
  rw [show 4 * (i + 1) + (c.val + 1) = 4 * i + (c.val + 1) + 4 by omega, scheduleWord_add_four k (by omega),
    nextWord_of_mod_ne_zero (by omega), show 4 * i + (c.val + 1) + 3 = 4 * (i + 1) + c.val by omega]

/-- Different keys expand differently: round key 0 is the key (R107). -/
theorem expandKey_injective : Function.Injective expandKey := fun k l h => by
  rw [← roundKey_expandKey_zero k, h, roundKey_expandKey_zero l]

/-! ## EXPANDKEY (R106) -/

/-- In format L the fields A and B are reserved (R61). -/
theorem isIllegal_of_formatL {o : Opcode} (ho : o.format = .l) {a b c : Byte} (h : a ≠ 0x00 ∨ b ≠ 0x00) :
    IsIllegal (packWord o.byte a b c) :=
  isIllegal_of_reservedClear (o := o) (by simp) (by simpa [ho, reservedClear, imp_iff_not_or] using h)

theorem exec_expandKey_of_ne {len : Byte} (h : len ≠ 16) (s : State) :
    exec (.expandKey len) s = raise .invalidKeyLength s :=
  if_neg (mt (lengthIs16_iff len).1 h)

/-! ## The obligations -/

/-- Settles O31: word by word, the expanded key is the list that R104's loop makes. -/
theorem expandKeyFollowsTheRecurrence : Obligations.ExpandKeyFollowsTheRecurrence := by
  refine fun k => ⟨fun i => ?_, fun j hj4 hj => ?_⟩
  · have hbyte : (roundKey (expandKey k) 0)[i] = (expandKey k)[16 * 0 + i.val] := roundKey_get _ 0 i (by omega) i.isLt
    simpa [roundKey_expandKey_zero] using hbyte.symm
  · obtain ⟨m, rfl⟩ := Nat.exists_eq_add_of_le' hj4
    have hword := scheduleWord_add_four k (m := m) (by omega)
    rw [← expandKey_word k (m + 4) hj, ← expandKey_word k m (by omega),
      ← expandKey_word k (m + 3) (by omega)] at hword
    exact Column.mk.inj hword

/-- Settles O32: a round key is four words of the schedule, each made from the words before it; the first round key is
the key, which the expansion therefore determines. -/
theorem roundKeyFollowsFromTheOneBefore : Obligations.RoundKeyFollowsFromTheOneBefore :=
  ⟨roundKey_expandKey_zero,
    fun k _ hi => ⟨columnOf_roundKey_succ_zero k hi, columnOf_roundKey_succ_succ k hi 0,
      columnOf_roundKey_succ_succ k hi 1, columnOf_roundKey_succ_succ k hi 2⟩,
    fun _ _ h => expandKey_injective h⟩

/-- Settles O30: the ten constants by evaluation; xor with 0x00 leaves bytes 1 to 3 of a word. -/
theorem keyScheduleWordFunctions : Obligations.KeyScheduleWordFunctions := by
  refine ⟨fun _ => ⟨rfl, rfl⟩, rfl, by decide, by decide, by decide, fun i t => ?_⟩
  simp [specialWord, xorColumn]

/-- Settles O33: the length is field C, A and B are reserved; round key 0 of the example is its key, and the other two
are evaluated. -/
theorem expandKeyWritesRk : Obligations.ExpandKeyWritesRk :=
  ⟨fun _ => complete_eq _, fun _ s h => exec_expandKey_of_ne h s, fun len => runsAs_encode (i := .expandKey len) rfl,
    fun _ _ _ => isIllegal_of_formatL (o := .expandKey) rfl, rfl, roundKey_expandKey_zero _, by decide +kernel,
    by decide +kernel⟩

end Sys2Proof.Machine
end

section
/-! PROOFS. The forward round pipeline (42_forward_round.md): the four transforms on a State (R110 to R113), the
commands that run one of them from DIN to DOUT and ENCRYPT (R116 to R120), and the step-by-step encryption (R121). -/

namespace Sys2Proof.Machine

/-! ## Columns (R44) -/

theorem getElem_eq_byte_columnOf (x : Block) (c r : Fin 4) :
    x[4 * c.val + r.val] = Column.byte (columnOf x c) r.val := by
  fin_cases r <;> rfl

/-- Two columns with equal bytes are equal. -/
theorem Column.ext_bytes {a b : Column} (h : ∀ r : Fin 4, Column.byte a r.val = Column.byte b r.val) : a = b := by
  obtain ⟨a0, a1, a2, a3⟩ := a
  obtain ⟨b0, b1, b2, b3⟩ := b
  rw [Column.mk.injEq]
  exact ⟨h 0, h 1, h 2, h 3⟩

@[simp] theorem byte_xorColumn (a b : Column) (r : Nat) :
    Column.byte (xorColumn a b) r = Column.byte a r ^^^ Column.byte b r := by
  simp only [Column.byte, xorColumn]
  split_ifs <;> rfl

theorem columnOf_addRoundKey (s t : Block) (c : Fin 4) :
    columnOf (addRoundKey s t) c = xorColumn (columnOf s c) (columnOf t c) := by
  simp [columnOf, xorColumn]

/-- A linear column function, applied to every column, is linear on States. -/
theorem onColumns_addRoundKey {f : Column → Column} (hf : ∀ a b, f (xorColumn a b) = xorColumn (f a) (f b))
    (s t : Block) : onColumns f (addRoundKey s t) = addRoundKey (onColumns f s) (onColumns f t) :=
  block_eq_of_columns fun c => by simp only [columnOf_onColumns, columnOf_addRoundKey, hf]

/-! ## Circulant matrices (R112, R132) -/

/-- Row `r` of the circulant matrix with first row (m0, m1, m2, m3), times a column (R112). -/
def circulantRow (m0 m1 m2 m3 : Byte) (a : Column) (r : Nat) : Byte :=
  gmul m0 (Column.byte a r) ^^^ gmul m1 (Column.byte a ((r + 1) % 4)) ^^^ gmul m2 (Column.byte a ((r + 2) % 4)) ^^^
    gmul m3 (Column.byte a ((r + 3) % 4))

/-- A column function that multiplies by the circulant matrix with first row (m0, m1, m2, m3). -/
def IsCirculant (m0 m1 m2 m3 : Byte) (f : Column → Column) : Prop :=
  ∀ (a : Column) (r : Fin 4), Column.byte (f a) r.val = circulantRow m0 m1 m2 m3 a r.val

theorem mixColumn_isCirculant : IsCirculant 2 3 1 1 mixColumn := by
  intro a r
  simp only [circulantRow, mixColumn, tablesHoldTheProducts _, one_gmul]
  fin_cases r <;> simp [Column.byte] <;> ac_rfl

theorem invMixColumn_isCirculant : IsCirculant 14 11 13 9 invMixColumn := by
  intro a r
  simp only [circulantRow, invMixColumn, tablesHoldTheProducts _]
  fin_cases r <;> simp [Column.byte] <;> ac_rfl

theorem xor_gmul (a b c : Byte) : gmul (a ^^^ b) c = gmul a c ^^^ gmul b c := by
  rw [gmul_comm, gmul_xor, gmul_comm c a, gmul_comm c b]

namespace IsCirculant
variable {m0 m1 m2 m3 : Byte} {f : Column → Column}

/-- The product with a matrix is linear over xor. -/
theorem map_xorColumn (hf : IsCirculant m0 m1 m2 m3 f) (a b : Column) :
    f (xorColumn a b) = xorColumn (f a) (f b) :=
  Column.ext_bytes fun r => by
    simp only [hf _ r, byte_xorColumn, circulantRow, gmul_xor]
    ac_rfl

/-- Where the entries of a row add up to 1, a column of four equal bytes is unchanged. -/
theorem map_equal_bytes (hf : IsCirculant m0 m1 m2 m3 f) (hsum : m0 ^^^ m1 ^^^ m2 ^^^ m3 = 0x01) (v : Byte) :
    f ⟨v, v, v, v⟩ = ⟨v, v, v, v⟩ :=
  Column.ext_bytes fun r => by
    have hbyte (i : Nat) : Column.byte ⟨v, v, v, v⟩ i = v := by simp [Column.byte]
    rw [hf _ r, circulantRow, hbyte, hbyte, hbyte, hbyte, ← xor_gmul, ← xor_gmul, ← xor_gmul, hsum, one_gmul]

/-- The bytes of a State whose columns are multiplied by the matrix. -/
theorem onColumns_getElem (hf : IsCirculant m0 m1 m2 m3 f) (s : Block) (c r : Fin 4) :
    (onColumns f s)[4 * c.val + r.val] =
      gmul m0 s[4 * c.val + r.val] ^^^ gmul m1 s[4 * c.val + (r.val + 1) % 4] ^^^
        gmul m2 s[4 * c.val + (r.val + 2) % 4] ^^^ gmul m3 s[4 * c.val + (r.val + 3) % 4] := by
  have entry (k : Nat) (hk : k < 4) : s[4 * c.val + k] = Column.byte (columnOf s c) k :=
    getElem_eq_byte_columnOf s c ⟨k, hk⟩
  rw [getElem_eq_byte_columnOf, columnOf_onColumns, hf _ r, circulantRow, entry _ r.isLt,
    entry _ (Nat.mod_lt _ (by decide)), entry _ (Nat.mod_lt _ (by decide)), entry _ (Nat.mod_lt _ (by decide))]

end IsCirculant

/-! ## The rotation of the rows (R111, R131) -/

theorem shiftRows_getElem (s : Block) (c r : Fin 4) :
    (shiftRows s)[4 * c.val + r.val] = s[4 * ((c.val + r.val) % 4) + r.val] := by
  simp only [shiftRows_get, show (4 * c.val + r.val) / 4 = c.val by omega,
    show (4 * c.val + r.val) % 4 = r.val by omega]

theorem invShiftRows_getElem (s : Block) (c r : Fin 4) :
    (invShiftRows s)[4 * c.val + r.val] = s[4 * ((c.val + (4 - r.val)) % 4) + r.val] := by
  simp only [invShiftRows_get, show (4 * c.val + r.val) / 4 = c.val by omega,
    show (4 * c.val + r.val) % 4 = r.val by omega, show c.val + 4 - r.val = c.val + (4 - r.val) by omega]

theorem shiftRows_eq (s : Block) : shiftRows s = #v[s[0], s[5], s[10], s[15], s[4], s[9], s[14], s[3], s[8], s[13],
    s[2], s[7], s[12], s[1], s[6], s[11]] := rfl

theorem invShiftRows_eq (s : Block) : invShiftRows s = #v[s[0], s[13], s[10], s[7], s[4], s[1], s[14], s[11], s[8],
    s[5], s[2], s[15], s[12], s[9], s[6], s[3]] := rfl

theorem invShiftRows_shiftRows (s : Block) : invShiftRows (shiftRows s) = s :=
  Vector.ext fun i hi => by
    simp only [invShiftRows_get, shiftRows_get]
    congr 1
    omega

theorem shiftRows_invShiftRows (s : Block) : shiftRows (invShiftRows s) = s :=
  Vector.ext fun i hi => by
    simp only [invShiftRows_get, shiftRows_get]
    congr 1
    omega

/-- Row r comes round after four turns of r columns. -/
theorem shiftRows_four_times (s : Block) : shiftRows (shiftRows (shiftRows (shiftRows s))) = s :=
  Vector.ext fun i hi => by
    simp only [shiftRows_get]
    congr 1
    omega

/-- A State of four equal columns has one byte all along each row, so a turn of the row changes nothing (R111). -/
theorem shiftRows_of_columns_eq {s : Block} (h : ∀ c : Fin 4, columnOf s c = columnOf s 0) : shiftRows s = s := by
  refine Vector.ext fun i hi => ?_
  have row (c : Nat) (hc : c < 4) : s[4 * c + i % 4] = Column.byte (columnOf s 0) (i % 4) :=
    (getElem_eq_byte_columnOf s ⟨c, hc⟩ ⟨i % 4, by omega⟩).trans (by rw [h])
  rw [shiftRows_get, row _ (by omega), ← row (i / 4) (by omega)]
  simp only [Nat.div_add_mod]

/-! ## AddRoundKey (R113) -/

theorem addRoundKey_addRoundKey (s k : Block) : addRoundKey (addRoundKey s k) k = s :=
  Block.ext_bytes fun i => by simp

/-! ## The commands that transform DIN (R116 to R119) -/

/-- In format Z the fields A, B and C are reserved (R61). -/
theorem isIllegal_of_formatZ {o : Opcode} (ho : o.format = .z) {a b c : Byte}
    (h : a ≠ 0x00 ∨ b ≠ 0x00 ∨ c ≠ 0x00) : IsIllegal (packWord o.byte a b c) :=
  isIllegal_of_reservedClear (o := o) (by simp) (by simpa [ho, reservedClear, imp_iff_not_or, or_assoc] using h)

/-- In every state that holds the expanded key `w`, the command `i` completes with `f` of DIN in DOUT. -/
def TransformsDin (w : ExpandedKey) (i : Instr) (f : Block → Block) : Prop :=
  ∀ s : State, s.rk = w → exec i s = complete (s.setDout (f s.din))

theorem transformsDin_subBytes (w : ExpandedKey) : TransformsDin w .subBytes subBytes := fun _ _ => rfl

theorem transformsDin_shiftRows (w : ExpandedKey) : TransformsDin w .shiftRows shiftRows := fun _ _ => rfl

theorem transformsDin_mixColumns (w : ExpandedKey) : TransformsDin w .mixColumns mixColumns := fun _ _ => rfl

theorem transformsDin_addRoundKey (w : ExpandedKey) {r : Byte} (hr : r.toNat ≤ 10) :
    TransformsDin w (.addRoundKey r) fun x => addRoundKey x (roundKey w r.toNat) := by
  rintro s rfl
  exact if_pos ((roundIndexInRange_iff r).2 (by omega))

/-! ## Programs of such commands with XFER between (R121) -/

theorem execAll_cons {i : Instr} {s t : State} (h : exec i s = .next t) (l : List Instr) :
    execAll (i :: l) s = execAll l t := by
  rw [execAll, h]

theorem execAll_append {l : List Instr} {s t : State} (h : execAll l s = .next t) (m : List Instr) :
    execAll (l ++ m) s = execAll m t := by
  induction l generalizing s with
  | nil => cases h; rfl
  | cons i l ih =>
    obtain ⟨u, hi, -⟩ := exec_responds i s
    rw [execAll_cons hi] at h
    rw [List.cons_append, execAll_cons hi, ih h]

/-- The commands `l`, executed from `s`, all answer, leave `x` in DOUT and keep RK, KEYIN and STATUS. -/
def Delivers (l : List Instr) (s : State) (x : Block) : Prop :=
  ∃ t, execAll l s = .next t ∧ t.dout = x ∧ t.rk = s.rk ∧ t.keyin = s.keyin ∧ t.status = s.status

theorem delivers_singleton {i : Instr} {f : Block → Block} {s : State} (hi : TransformsDin s.rk i f) :
    Delivers [i] s (f s.din) :=
  ⟨(s.setDout (f s.din)).respond (okResponse 0x00), execAll_cons ((hi s rfl).trans (complete_eq _)) [], rfl, rfl, rfl,
    rfl⟩

/-- XFER and one more transform, applied to what the commands before delivered. -/
theorem Delivers.append_xfer {l : List Instr} {s : State} {x : Block} (hl : Delivers l s x) {i : Instr}
    {f : Block → Block} (hi : TransformsDin s.rk i f) : Delivers (l ++ [xfer, i]) s (f x) := by
  obtain ⟨t, hexec, rfl, hrk, hkeyin, hstatus⟩ := hl
  rw [← hrk] at hi
  have hmove : exec xfer t = .next ((t.setDin t.dout).respond (okResponse 0x00)) := complete_eq _
  obtain ⟨u, hrun, hdout, hrk', hkeyin', hstatus'⟩ :
      Delivers [i] ((t.setDin t.dout).respond (okResponse 0x00)) (f t.dout) := delivers_singleton hi
  exact ⟨u, (execAll_append hexec _).trans ((execAll_cons hmove _).trans hrun), hdout, hrk'.trans hrk,
    hkeyin'.trans hkeyin, hstatus'.trans hstatus⟩

/-- The four commands of a full round, each after an XFER (R121). -/
theorem Delivers.append_roundProgram {l : List Instr} {s : State} {x : Block} (hl : Delivers l s x) {i : Nat}
    (hi : i ≤ 10) : Delivers (l ++ roundProgram i) s (fullRound x (roundKey s.rk i)) := by
  have hindex : (BitVec.ofNat 8 i).toNat = i := by simp; omega
  have h := hl.append_xfer (transformsDin_subBytes _) |>.append_xfer (transformsDin_shiftRows _)
    |>.append_xfer (transformsDin_mixColumns _) |>.append_xfer (transformsDin_addRoundKey _ (hindex.trans_le hi))
  simpa [roundProgram, fullRound, hindex] using h

/-- After ADDROUNDKEY 0 and `n` full rounds DOUT holds checkpoint T[n] (R114, R121). -/
theorem delivers_checkpoint (s : State) {n : Nat} (hn : n ≤ 9) :
    Delivers ([Instr.addRoundKey 0] ++ (List.range n).flatMap fun i => roundProgram (i + 1)) s
      (checkpoint s.din s.rk n) := by
  induction n with
  | zero => exact delivers_singleton (transformsDin_addRoundKey s.rk (r := 0) (by decide))
  | succ n ih =>
    rw [checkpoint_full _ _ _ (by omega), List.range_succ, List.flatMap_append, List.flatMap_singleton,
      ← List.append_assoc]
    exact (ih (by omega)).append_roundProgram (by omega)

/-- The step-by-step encryption delivers the encrypted block (R121 item iv). -/
theorem delivers_encryptProgram (s : State) : Delivers encryptProgram s (encryptBlock s.din s.rk) := by
  rw [encryptBlock_eq, checkpoint_final, finalRound]
  have h := delivers_checkpoint s le_rfl |>.append_xfer (transformsDin_subBytes _)
    |>.append_xfer (transformsDin_shiftRows _) |>.append_xfer (transformsDin_addRoundKey _ (r := 10) (by decide))
  simpa [encryptProgram] using h

/-! ## ENCRYPT (R120) -/

theorem exec_encrypt_of_ne {len : Byte} (h : len ≠ 16) (s : State) :
    exec (.encrypt len) s = raise .invalidBlockLength s :=
  if_neg (mt (lengthIs16_iff len).1 h)

/-! ## The obligations -/

/-- Settles O34: byte 4c + r is row r, column c; the turns of row r add up modulo 4. -/
theorem shiftRowsRotatesTheRows : Obligations.ShiftRowsRotatesTheRows :=
  ⟨fun s c r => ⟨shiftRows_getElem s c r, invShiftRows_getElem s c r⟩, shiftRows_eq, invShiftRows_eq,
    fun s => ⟨invShiftRows_shiftRows s, shiftRows_invShiftRows s⟩, fun _ h => shiftRows_of_columns_eq h, by decide,
    by decide, by decide, by decide⟩

/-- Settles O35: both column functions are products with a circulant matrix whose rows add up to 1. -/
theorem mixColumnsIsTheMatrixProduct : Obligations.MixColumnsIsTheMatrixProduct :=
  ⟨fun s c r => ⟨mixColumn_isCirculant.onColumns_getElem s c r, invMixColumn_isCirculant.onColumns_getElem s c r⟩,
    fun v => ⟨mixColumn_isCirculant.map_equal_bytes rfl v, invMixColumn_isCirculant.map_equal_bytes rfl v⟩,
    fun s t => ⟨onColumns_addRoundKey mixColumn_isCirculant.map_xorColumn s t,
      onColumns_addRoundKey invMixColumn_isCirculant.map_xorColumn s t⟩⟩

/-- Settles O36: byte by byte, from the laws of xor. -/
theorem addRoundKeyIsSelfInverse : Obligations.AddRoundKeyIsSelfInverse := by
  refine ⟨fun s k i => addRoundKey_get s k i i.isLt, addRoundKey_addRoundKey, fun s => ⟨?_, ?_⟩, by decide⟩
  · exact Block.ext_bytes fun i => by simp
  · exact Block.ext_bytes fun i => by simp

/-- Settles O39: the program and the command both deliver T[10]. -/
theorem encryptIsTheStepProgram : Obligations.EncryptIsTheStepProgram := by
  intro s
  obtain ⟨t, hexec, hdout, hrk, hkeyin, hstatus⟩ := delivers_encryptProgram s
  exact ⟨t, hexec, by rw [hdout]; exact complete_eq _, hrk, hkeyin, hstatus⟩

/-- Settles O40: all fields but OP are reserved. -/
theorem subBytesWritesDout : Obligations.SubBytesWritesDout :=
  ⟨fun _ => complete_eq _, fun x i => subBytes_get x i i.isLt, runsAs_encode (i := .subBytes) rfl,
    fun _ _ _ => isIllegal_of_formatZ (o := .subBytes) rfl, by decide, by decide⟩

/-- Settles O41: row r is turned by r columns, so row 0 stays and four turns restore every row. -/
theorem shiftRowsWritesDout : Obligations.ShiftRowsWritesDout := by
  refine ⟨fun _ => complete_eq _, runsAs_encode (i := .shiftRows) rfl,
    fun _ _ _ => isIllegal_of_formatZ (o := .shiftRows) rfl, fun x c => ?_, fun s => ?_, by decide⟩
  · simpa [Nat.mod_eq_of_lt c.isLt] using shiftRows_getElem x c 0
  · have turn := transformsDin_shiftRows s.rk
    obtain ⟨t, hexec, hdout, -⟩ := delivers_singleton turn |>.append_xfer turn |>.append_xfer turn |>.append_xfer turn
    exact ⟨t, hexec, hdout.trans (shiftRows_four_times s.din)⟩

/-- Settles O42: all fields but OP are reserved; a row of the matrix adds up to 1. -/
theorem mixColumnsWritesDout : Obligations.MixColumnsWritesDout :=
  ⟨fun _ => complete_eq _, runsAs_encode (i := .mixColumns) rfl,
    fun _ _ _ => isIllegal_of_formatZ (o := .mixColumns) rfl, mixColumn_isCirculant.map_equal_bytes rfl, by decide,
    by decide⟩

/-- Settles O43: the index is field A; B and C are reserved, and an index above 10 is out of its set. -/
theorem addRoundKeyWritesDout : Obligations.AddRoundKeyWritesDout := by
  refine ⟨fun r s hr => (transformsDin_addRoundKey s.rk hr s rfl).trans (complete_eq _),
    fun w r j => roundKey_get w r j (by omega) j.isLt,
    fun r hr => runsAs_encode (i := .addRoundKey r) (decide_eq_true hr), fun a b c h => ?_, fun r s hr => ?_, rfl, ?_⟩
  · by_cases ha : 10 < a.toNat
    · exact isIllegal_of_operandsOf (o := .addRoundKey) (by simp [Opcode.byte]) (by simpa [operandsOf] using ha)
    · exact isIllegal_of_formatA (o := .addRoundKey) rfl (by simpa [ha] using h)
  · have add := transformsDin_addRoundKey s.rk hr
    obtain ⟨t, hexec, hdout, -⟩ := (delivers_singleton add).append_xfer add
    exact ⟨t, hexec, hdout.trans (addRoundKey_addRoundKey _ _)⟩
  · rw [roundKey_expandKey_zero]
    decide

/-- Settles O44: the length is field C, A and B are reserved; the known answer is evaluated. -/
theorem encryptWritesDout : Obligations.EncryptWritesDout :=
  ⟨fun _ => complete_eq _, fun _ s h => exec_encrypt_of_ne h s, fun len => runsAs_encode (i := .encrypt len) rfl,
    fun _ _ _ => isIllegal_of_formatL (o := .encrypt) rfl, rfl, by decide +kernel⟩

end Sys2Proof.Machine
end

section
/-! PROOFS. The inverse round pipeline (43_inverse_round.md): each inverse transform undoes its transform (R130 to
R132), the commands that run one of them from DIN to DOUT and DECRYPT (R134 to R137), and decryption against encryption
(R133, R138). -/

namespace Sys2Proof.Machine

/-! ## SubBytes, byte by byte (R130) -/

@[simp] theorem invSubBytes_subBytes (s : Block) : invSubBytes (subBytes s) = s :=
  Block.ext_bytes fun i => by simp [invSbox_sbox]

@[simp] theorem subBytes_invSubBytes (s : Block) : subBytes (invSubBytes s) = s :=
  Block.ext_bytes fun i => by simp [sbox_invSbox]

/-! ## MixColumns: the matrices M and N are inverse (R132) -/

/-- The product of two circulant matrices is circulant: its first row is the product of the first rows as polynomials
modulo x^4 + 1. -/
theorem IsCirculant.comp {m0 m1 m2 m3 n0 n1 n2 n3 : Byte} {f g : Column → Column} (hf : IsCirculant m0 m1 m2 m3 f)
    (hg : IsCirculant n0 n1 n2 n3 g) :
    IsCirculant (gmul m0 n0 ^^^ gmul m1 n3 ^^^ gmul m2 n2 ^^^ gmul m3 n1)
      (gmul m0 n1 ^^^ gmul m1 n0 ^^^ gmul m2 n3 ^^^ gmul m3 n2)
      (gmul m0 n2 ^^^ gmul m1 n1 ^^^ gmul m2 n0 ^^^ gmul m3 n3)
      (gmul m0 n3 ^^^ gmul m1 n2 ^^^ gmul m2 n1 ^^^ gmul m3 n0) (f ∘ g) := by
  intro a r
  have row (k : Nat) : Column.byte (g a) (k % 4) = circulantRow n0 n1 n2 n3 a (k % 4) :=
    hg a ⟨k % 4, Nat.mod_lt k (by decide)⟩
  rw [Function.comp_apply, hf, circulantRow, hg a r, row, row, row]
  apply fieldElem_injective
  fin_cases r <;> simp only [circulantRow, Nat.reduceAdd, Nat.reduceMod, fieldElem_xor, fieldElem_gmul] <;> ring

/-- A matrix whose first row is (1, 0, 0, 0) changes no column. -/
theorem IsCirculant.eq_self {m0 m1 m2 m3 : Byte} {f : Column → Column} (hf : IsCirculant m0 m1 m2 m3 f)
    (hrow : m0 = 1 ∧ m1 = 0 ∧ m2 = 0 ∧ m3 = 0) (a : Column) : f a = a := by
  obtain ⟨rfl, rfl, rfl, rfl⟩ := hrow
  refine Column.ext_bytes fun r => ?_
  rw [hf a r, circulantRow, one_gmul, zero_gmul, zero_gmul, zero_gmul]
  simp

theorem invMixColumn_mixColumn (a : Column) : invMixColumn (mixColumn a) = a :=
  (invMixColumn_isCirculant.comp mixColumn_isCirculant).eq_self (by decide) a

theorem mixColumn_invMixColumn (a : Column) : mixColumn (invMixColumn a) = a :=
  (mixColumn_isCirculant.comp invMixColumn_isCirculant).eq_self (by decide) a

theorem onColumns_leftInverse {f g : Column → Column} (h : ∀ a, f (g a) = a) (s : Block) :
    onColumns f (onColumns g s) = s :=
  block_eq_of_columns fun c => by rw [columnOf_onColumns, columnOf_onColumns, h]

@[simp] theorem invMixColumns_mixColumns (s : Block) : invMixColumns (mixColumns s) = s :=
  onColumns_leftInverse invMixColumn_mixColumn s

@[simp] theorem mixColumns_invMixColumns (s : Block) : mixColumns (invMixColumns s) = s :=
  onColumns_leftInverse mixColumn_invMixColumn s

/-! ## Decryption against encryption (R133, R138) -/

/-- From checkpoint T[n], before the final round, the inverse rounds come back to the block. -/
theorem decryptFrom_checkpoint (p : Block) (w : ExpandedKey) {n : Nat} (hn : n ≤ 9) :
    decryptFrom w n (checkpoint p w n) = p := by
  induction n with
  | zero => exact addRoundKey_addRoundKey p (roundKey w 0)
  | succ n ih =>
    have undo : invSubBytes (invShiftRows (invMixColumns
        (addRoundKey (checkpoint p w (n + 1)) (roundKey w (n + 1))))) = checkpoint p w n := by
      simp [checkpoint_full p w n hn, fullRound, addRoundKey_addRoundKey, invShiftRows_shiftRows]
    rw [decryptFrom_succ, undo, ih (by omega)]

/-- From what the inverse rounds made of a State, `n` rounds of encryption come back to the State. -/
theorem checkpoint_decryptFrom (s : Block) (w : ExpandedKey) {n : Nat} (hn : n ≤ 9) :
    checkpoint (decryptFrom w n s) w n = s := by
  induction n generalizing s with
  | zero => exact addRoundKey_addRoundKey s (roundKey w 0)
  | succ n ih =>
    rw [checkpoint_full _ w n hn, decryptFrom_succ, ih _ (by omega)]
    simp [fullRound, addRoundKey_addRoundKey, shiftRows_invShiftRows]

theorem decryptBlock_encryptBlock (p : Block) (w : ExpandedKey) : decryptBlock (encryptBlock p w) w = p := by
  have undo : invSubBytes (invShiftRows (addRoundKey (encryptBlock p w) (roundKey w 10))) = checkpoint p w 9 := by
    simp [encryptBlock_eq, checkpoint_final, finalRound, addRoundKey_addRoundKey, invShiftRows_shiftRows]
  rw [decryptBlock, undo, decryptFrom_checkpoint p w le_rfl]

theorem encryptBlock_decryptBlock (c : Block) (w : ExpandedKey) : encryptBlock (decryptBlock c w) w = c := by
  rw [encryptBlock_eq, checkpoint_final, decryptBlock, checkpoint_decryptFrom _ w le_rfl]
  simp [finalRound, addRoundKey_addRoundKey, shiftRows_invShiftRows]

/-! ## The commands ENCRYPT and DECRYPT (R120, R137) -/

theorem transformsDin_encrypt (w : ExpandedKey) : TransformsDin w (.encrypt 16) (encryptBlock · w) := by
  rintro s rfl; rfl

theorem transformsDin_decrypt (w : ExpandedKey) : TransformsDin w (.decrypt 16) (decryptBlock · w) := by
  rintro s rfl; rfl

theorem exec_decrypt_of_ne {len : Byte} (h : len ≠ 16) (s : State) :
    exec (.decrypt len) s = raise .invalidBlockLength s :=
  if_neg (mt (lengthIs16_iff len).1 h)

/-! ## The obligations -/

/-- Settles O37: the tables are inverse, the turns of a row add up to none, and the matrices have product 1. -/
theorem inverseTransformsUndoTheForward : Obligations.InverseTransformsUndoTheForward :=
  fun s => ⟨invSubBytes_subBytes s, subBytes_invSubBytes s, invShiftRows_shiftRows s, shiftRows_invShiftRows s,
    invMixColumns_mixColumns s, mixColumns_invMixColumns s⟩

/-- Settles O38: by induction on the rounds, each undone by its inverse round under the same round key. -/
theorem decryptInvertsEncrypt : Obligations.DecryptInvertsEncrypt := by
  refine ⟨decryptBlock_encryptBlock, encryptBlock_decryptBlock, fun s => ?_⟩
  obtain ⟨t, hexec, hdout, -⟩ :=
    (delivers_singleton (transformsDin_encrypt s.rk)).append_xfer (transformsDin_decrypt s.rk)
  exact ⟨t, hexec, hdout.trans (decryptBlock_encryptBlock s.din s.rk)⟩

/-- Settles O45: all fields but OP are reserved. -/
theorem invSubBytesWritesDout : Obligations.InvSubBytesWritesDout :=
  ⟨fun _ => complete_eq _, fun x i => invSubBytes_get x i i.isLt, runsAs_encode (i := .invSubBytes) rfl,
    fun _ _ _ => isIllegal_of_formatZ (o := .invSubBytes) rfl, by decide⟩

/-- Settles O46: all fields but OP are reserved; row 0 is turned by four columns, which is a whole turn. -/
theorem invShiftRowsWritesDout : Obligations.InvShiftRowsWritesDout := by
  refine ⟨fun _ => complete_eq _, runsAs_encode (i := .invShiftRows) rfl,
    fun _ _ _ => isIllegal_of_formatZ (o := .invShiftRows) rfl, fun x c => ?_, by decide⟩
  simpa [Nat.mod_eq_of_lt c.isLt] using invShiftRows_getElem x c 0

/-- Settles O47: all fields but OP are reserved; a row of the matrix adds up to 1. -/
theorem invMixColumnsWritesDout : Obligations.InvMixColumnsWritesDout :=
  ⟨fun _ => complete_eq _, runsAs_encode (i := .invMixColumns) rfl,
    fun _ _ _ => isIllegal_of_formatZ (o := .invMixColumns) rfl, invMixColumn_isCirculant.map_equal_bytes rfl,
    by decide, by decide⟩

/-- Settles O48: the length is field C, A and B are reserved; the known answer is ENCRYPT's, taken back (R138). -/
theorem decryptWritesDout : Obligations.DecryptWritesDout := by
  refine ⟨fun _ => complete_eq _, fun _ s h => exec_decrypt_of_ne h s, fun len => runsAs_encode (i := .decrypt len) rfl,
    fun _ _ _ => isIllegal_of_formatL (o := .decrypt) rfl, rfl, ?_⟩
  obtain ⟨-, -, -, -, -, knownAnswer⟩ := encryptWritesDout
  rw [← knownAnswer, decryptBlock_encryptBlock]

end Sys2Proof.Machine
end

section
/-! PROOFS. The avalanche harness (44_avalanche.md): the flipped bit (R150), the changed-bit count as a Hamming distance
(R151, R152), how far one flipped bit spreads (R158), and FLIPBIT, HAMMING and AVALANCHE (R155 to R157). -/

namespace Sys2Proof.Machine

/-! ## The flipped bit (R150) -/

theorem getLsbD_flipBit (x : Block) (p : Nat) (i : Fin 16) (k : Nat) :
    (flipBit x p)[i].getLsbD k = (x[i].getLsbD k ^^ decide (i.val = p / 8 ∧ k = p % 8)) := by
  have hmask : (1#8 <<< (p % 8)).getLsbD k = decide (k = p % 8) := by
    rw [← BitVec.twoPow_eq, BitVec.getLsbD_twoPow]
    simp [Nat.mod_lt p, eq_comm]
  rw [Fin.getElem_fin, flipBit_get]
  split
  case isTrue hi => simp [hmask, hi]
  case isFalse hi => simp [hi]

theorem flipBit_flipBit (x : Block) (p : Nat) : flipBit (flipBit x p) p = x :=
  Block.ext_bytes fun i => by
    simp only [Fin.getElem_fin, flipBit_get]
    split
    · rw [BitVec.xor_assoc, BitVec.xor_self, BitVec.xor_zero]
    · rfl

/-! ## The count as a Hamming distance (R151, R152) -/

/-- The 128 bits of a block, by byte and bit. -/
def blockBit (x : Block) (q : Fin 16 × Fin 8) : Bool := x[q.1].getLsbD q.2.val

theorem byte_ext {a b : Byte} (h : ∀ k : Fin 8, a.getLsbD k.val = b.getLsbD k.val) : a = b :=
  BitVec.eq_of_getLsbD_eq fun k hk => h ⟨k, hk⟩

theorem blockBit_injective : Function.Injective blockBit := fun _ _ h =>
  Block.ext_bytes fun i => byte_ext fun k => congrFun h (i, k)

theorem blockBit_addRoundKey (s k : Block) :
    blockBit (addRoundKey s k) = fun q => blockBit s q ^^ blockBit k q := by
  funext q
  simp only [blockBit, Fin.getElem_fin, addRoundKey_get, BitVec.getLsbD_xor]

/-- The comparator adds up the ones of the xored bytes. -/
theorem countChangedBits_eq_sum (x y : Block) : countChangedBits x y = ∑ i : Fin 16, popcount8 (x[i] ^^^ y[i]) :=
  (Fin.sum_univ_def _).symm

theorem popcount8_eq_sum (b : Byte) : popcount8 b = ∑ k : Fin 8, (b.getLsbD k.val).toNat := by
  rw [Fin.sum_univ_eight, popcount8]
  rfl

theorem countChangedBits_eq_hammingDist (x y : Block) :
    countChangedBits x y = hammingDist (blockBit x) (blockBit y) := by
  have differ (a b : Bool) : (a ^^ b).toNat = if a ≠ b then 1 else 0 := by cases a <;> cases b <;> rfl
  rw [hammingDist, Finset.card_filter, Fintype.sum_prod_type, countChangedBits_eq_sum]
  simp only [popcount8_eq_sum, BitVec.getLsbD_xor, differ]
  rfl

theorem countChangedBits_le (x y : Block) : countChangedBits x y ≤ 128 := by
  rw [countChangedBits_eq_hammingDist]
  exact hammingDist_le_card_fintype

theorem countChangedBits_comm (x y : Block) : countChangedBits x y = countChangedBits y x := by
  rw [countChangedBits_eq_hammingDist, countChangedBits_eq_hammingDist, hammingDist_comm]

theorem countChangedBits_eq_zero {x y : Block} : countChangedBits x y = 0 ↔ x = y := by
  rw [countChangedBits_eq_hammingDist, hammingDist_eq_zero, blockBit_injective.eq_iff]

/-- The count reaches 128 only if every bit is inverted. -/
theorem countChangedBits_eq_all {x y : Block} : countChangedBits x y = 128 ↔ ∀ i : Fin 16, y[i] = ~~~ x[i] := by
  have hall : countChangedBits x y = 128 ↔ ∀ q, blockBit x q ≠ blockBit y q := by
    rw [countChangedBits_eq_hammingDist, hammingDist]
    exact Finset.card_filter_eq_iff.trans (by simp)
  rw [hall]
  refine ⟨fun h i => byte_ext fun k => ?_, fun h q => ?_⟩
  · have hbit : x[i].getLsbD k.val ≠ y[i].getLsbD k.val := h (i, k)
    simpa [Bool.eq_not_iff] using hbit.symm
  · simp [blockBit, h q.1]

theorem countChangedBits_flipBit (x : Block) {p : Nat} (hp : p < 128) : countChangedBits x (flipBit x p) = 1 := by
  have inverted (a b : Bool) : (a ≠ (a ^^ b)) ↔ b = true := by cases a <;> cases b <;> decide
  have hone : (Finset.univ.filter fun q => blockBit x q ≠ blockBit (flipBit x p) q) =
      {(⟨p / 8, by omega⟩, ⟨p % 8, by omega⟩)} := by
    ext ⟨i, k⟩
    rw [Finset.mem_filter_univ, blockBit, blockBit, getLsbD_flipBit, inverted]
    simp [Fin.ext_iff]
  rw [countChangedBits_eq_hammingDist, hammingDist, hone, Finset.card_singleton]

/-- Adding one round key to both blocks keeps their distance. -/
theorem countChangedBits_addRoundKey (s t k : Block) :
    countChangedBits (addRoundKey s k) (addRoundKey t k) = countChangedBits s t := by
  simp only [countChangedBits_eq_hammingDist, blockBit_addRoundKey]
  exact hammingDist_comp (fun q b => b ^^ blockBit k q) fun _ _ _ => Bool.xor_left_inj.1

theorem addRoundKey_comm (s k : Block) : addRoundKey s k = addRoundKey k s :=
  Block.ext_bytes fun i => by simp [BitVec.xor_comm]

/-! ## The bytes in which two blocks differ -/

/-- The places of the bytes in which two blocks differ. -/
def changedBytes (x y : Block) : Finset (Fin 16) := Finset.univ.filter fun i => x[i] ≠ y[i]

theorem mem_changedBytes {x y : Block} {i : Fin 16} : i ∈ changedBytes x y ↔ x[i] ≠ y[i] := by simp [changedBytes]

theorem popcount8_le (b : Byte) : popcount8 b ≤ 8 := by revert b; decide +kernel

theorem popcount8_eq_zero {b : Byte} : popcount8 b = 0 ↔ b = 0x00 := by revert b; decide +kernel

theorem popcount8_xor_eq_zero {a b : Byte} : popcount8 (a ^^^ b) = 0 ↔ a = b :=
  popcount8_eq_zero.trans BitVec.xor_eq_zero_iff

/-- A changed byte counts 1 to 8, any other 0. -/
theorem countChangedBits_bounds (x y : Block) :
    (changedBytes x y).card ≤ countChangedBits x y ∧ countChangedBits x y ≤ (changedBytes x y).card * 8 := by
  have hsum : countChangedBits x y = ∑ i ∈ changedBytes x y, popcount8 (x[i] ^^^ y[i]) := by
    rw [countChangedBits_eq_sum]
    refine (Finset.sum_subset (Finset.subset_univ _) fun i _ hi => ?_).symm
    exact popcount8_xor_eq_zero.2 (not_not.1 (mt mem_changedBytes.2 hi))
  rw [hsum]
  constructor
  · rw [Finset.card_eq_sum_ones]
    exact Finset.sum_le_sum fun i hi => Nat.one_le_iff_ne_zero.2 (mt popcount8_xor_eq_zero.1 (mem_changedBytes.1 hi))
  · exact Finset.sum_le_card_nsmul _ _ 8 fun i _ => popcount8_le _

theorem changedBytes_flipBit (x : Block) {p : Nat} (hp : p < 128) :
    changedBytes x (flipBit x p) = {⟨p / 8, by omega⟩} := by
  have hmask : ∀ k < 8, 1#8 <<< k ≠ 0#8 := by decide
  have inverted (a : Byte) : a ≠ a ^^^ 1#8 <<< (p % 8) := fun h =>
    hmask _ (Nat.mod_lt p (by decide)) ((BitVec.xor_right_inj a).1 (h.symm.trans BitVec.xor_zero.symm))
  ext i
  rw [mem_changedBytes, Fin.getElem_fin, Fin.getElem_fin, flipBit_get, Finset.mem_singleton, Fin.ext_iff]
  split
  case isTrue hi => exact iff_of_true (inverted _) hi
  case isFalse hi => simp [hi]

theorem changedBytes_addRoundKey (s t k : Block) :
    changedBytes (addRoundKey s k) (addRoundKey t k) = changedBytes s t := by
  ext i
  simp [mem_changedBytes]

theorem changedBytes_subBytes (s t : Block) : changedBytes (subBytes s) (subBytes t) = changedBytes s t := by
  have hsbox : Function.Injective sbox := Function.LeftInverse.injective invSbox_sbox
  ext i
  simp [mem_changedBytes, hsbox.eq_iff]

/-- Where ShiftRows takes the byte at place `i` from (R111). -/
def shiftRowsSource (i : Fin 16) : Fin 16 := ⟨4 * ((i.val / 4 + i.val % 4) % 4) + i.val % 4, by omega⟩

/-- ShiftRows only moves the changed bytes (R111). -/
theorem card_changedBytes_shiftRows (s t : Block) :
    (changedBytes (shiftRows s) (shiftRows t)).card = (changedBytes s t).card :=
  Finset.card_bijective shiftRowsSource (by decide) fun i => by
    simp [mem_changedBytes, shiftRows_get, shiftRowsSource]

theorem gmul_ne_zero {a b : Byte} (ha : a ≠ 0x00) (hb : b ≠ 0x00) : gmul a b ≠ 0x00 := fun h =>
  hb (gmul_left_cancel ha (h.trans (gmul_zero a).symm))

/-- Where no entry of the matrix is 0, a column whose one byte `k` is not 0 has a product without a byte 0. -/
theorem IsCirculant.byte_ne_zero {m0 m1 m2 m3 : Byte} {f : Column → Column} (hf : IsCirculant m0 m1 m2 m3 f)
    (hm : m0 ≠ 0x00 ∧ m1 ≠ 0x00 ∧ m2 ≠ 0x00 ∧ m3 ≠ 0x00) {a : Column} {k : Fin 4}
    (ha : ∀ r : Fin 4, Column.byte a r.val ≠ 0x00 ↔ r = k) (r : Fin 4) : Column.byte (f a) r.val ≠ 0x00 := by
  obtain ⟨h0, h1, h2, h3⟩ := hm
  obtain ⟨j, hj, hk⟩ : ∃ j < 4, (r.val + j) % 4 = k.val := ⟨(k.val + 4 - r.val) % 4, by omega, by omega⟩
  have hbyte : Column.byte a ((r.val + j) % 4) ≠ 0x00 := by rw [hk]; exact (ha k).2 rfl
  have hzero (m : Byte) (i : Nat) (hi : i < 4) (hij : i ≠ j) : gmul m (Column.byte a ((r.val + i) % 4)) = 0#8 := by
    have hik : (⟨(r.val + i) % 4, by omega⟩ : Fin 4) ≠ k := by rw [ne_eq, Fin.ext_iff]; dsimp only; omega
    rw [not_not.1 (mt (ha _).1 hik), gmul_zero]
    rfl
  have hr : Column.byte a r.val = Column.byte a ((r.val + 0) % 4) := by rw [Nat.add_zero, Nat.mod_eq_of_lt r.isLt]
  rw [hf a r, circulantRow, hr]
  interval_cases j <;> simp (disch := decide) only [hzero, BitVec.xor_zero, BitVec.zero_xor]
  · exact gmul_ne_zero h0 hbyte
  · exact gmul_ne_zero h1 hbyte
  · exact gmul_ne_zero h2 hbyte
  · exact gmul_ne_zero h3 hbyte

theorem byte_columnOf (x : Block) (c r : Fin 4) :
    Column.byte (columnOf x c) r.val = x[(⟨4 * c.val + r.val, by omega⟩ : Fin 16)] :=
  (getElem_eq_byte_columnOf x c r).symm

theorem byte_xor_ne_zero {a b : Byte} : a ^^^ b ≠ 0x00 ↔ a ≠ b := BitVec.xor_eq_zero_iff.not

/-- One changed byte makes MixColumns change the four bytes of its column and no other (R112). -/
theorem changedBytes_mixColumns {s t : Block} {i : Fin 16} (h : changedBytes s t = {i}) :
    changedBytes (mixColumns s) (mixColumns t) = Finset.univ.filter fun j => j.val / 4 = i.val / 4 := by
  have hi (j : Fin 16) : s[j] ≠ t[j] ↔ j = i := by rw [← mem_changedBytes, h, Finset.mem_singleton]
  ext j
  have hc : j.val / 4 < 4 := by omega
  rw [mem_changedBytes, Finset.mem_filter_univ, Fin.getElem_fin, Fin.getElem_fin, mixColumns, mixColumns,
    onColumns_get, onColumns_get]
  by_cases hcol : j.val / 4 = i.val / 4
  · refine iff_of_true (byte_xor_ne_zero.1 ?_) hcol
    rw [← byte_xorColumn, ← mixColumn_isCirculant.map_xorColumn]
    refine mixColumn_isCirculant.byte_ne_zero (k := ⟨i.val % 4, by omega⟩) (by decide) (fun r => ?_)
      ⟨j.val % 4, by omega⟩
    rw [byte_xorColumn, byte_xor_ne_zero, byte_columnOf, byte_columnOf, hi, Fin.ext_iff, Fin.ext_iff]
    dsimp only
    omega
  · refine iff_of_false (not_not.2 ?_) hcol
    have hsame : columnOf s ⟨j.val / 4, hc⟩ = columnOf t ⟨j.val / 4, hc⟩ := Column.ext_bytes fun r => by
      rw [byte_columnOf, byte_columnOf, ← not_ne_iff, hi, Fin.ext_iff]
      dsimp only
      omega
    rw [hsame]

/-! ## How far one flipped bit spreads (R158) -/

/-- One changed byte becomes four in a full round. -/
theorem card_changedBytes_fullRound {s t : Block} (h : (changedBytes s t).card = 1) (k : Block) :
    (changedBytes (fullRound s k) (fullRound t k)).card = 4 := by
  rw [← changedBytes_subBytes, ← card_changedBytes_shiftRows, Finset.card_eq_one] at h
  obtain ⟨i, hi⟩ := h
  have column : ∀ i : Fin 16, (Finset.univ.filter fun j : Fin 16 => j.val / 4 = i.val / 4).card = 4 := by decide
  rw [fullRound, fullRound, changedBytes_addRoundKey, changedBytes_mixColumns hi, column]

/-- Each checkpoint determines the block: the inverse rounds come back to it (R158 item v). -/
theorem checkpoint_injective (w : ExpandedKey) {i : Nat} (hi : i ≤ 10) :
    Function.Injective fun p => checkpoint p w i := by
  rcases hi.lt_or_eq with hlt | rfl
  · exact Function.LeftInverse.injective (g := decryptFrom w i) fun p => decryptFrom_checkpoint p w (by omega)
  · exact Function.LeftInverse.injective (g := (decryptBlock · w)) fun p => by
      simpa [encryptBlock_eq] using decryptBlock_encryptBlock p w

/-- Before the first round the two runs differ in the flipped bit alone, in the block or in the key (R158 item i). -/
theorem avalancheRecord_zero (p : Block) (w : ExpandedKey) {pos : Nat} (hpos : pos < 128) (target : Target) :
    (avalancheRecord p w pos target)[0] = 1 := by
  rw [avalancheRecord_get]
  cases target with
  | plaintext =>
    calc countChangedBits (addRoundKey p (roundKey w 0)) (addRoundKey (flipBit p pos) (roundKey w 0))
        = countChangedBits p (flipBit p pos) := countChangedBits_addRoundKey _ _ _
      _ = 1 := countChangedBits_flipBit p hpos
  | key =>
    calc countChangedBits (addRoundKey p (roundKey w 0))
          (addRoundKey p (roundKey (expandKey (flipBit (roundKey w 0) pos)) 0))
        = countChangedBits (roundKey w 0) (flipBit (roundKey w 0) pos) := by
          rw [roundKey_expandKey_zero, addRoundKey_comm p, addRoundKey_comm p, countChangedBits_addRoundKey]
      _ = 1 := countChangedBits_flipBit (roundKey w 0) hpos

theorem avalancheRecord_le (p : Block) (w : ExpandedKey) (pos : Nat) (target : Target) (i : Fin 11) :
    (avalancheRecord p w pos target)[i] ≤ 128 := by
  rw [Fin.getElem_fin, avalancheRecord_get]
  exact countChangedBits_le _ _

theorem avalancheRecord_plaintext (p : Block) (w : ExpandedKey) (pos i : Nat) (hi : i < 11) :
    (avalancheRecord p w pos .plaintext)[i] =
      countChangedBits (checkpoint p w i) (checkpoint (flipBit p pos) w i) :=
  avalancheRecord_get p w pos .plaintext i hi

/-! ## The commands (R155 to R157) -/

theorem exec_flipBit_of_le {pos : Byte} (h : pos.toNat ≤ 127) (s : State) :
    exec (.flipBit pos) s = complete (s.setDout (flipBit s.din pos.toNat)) :=
  if_pos ((positionInRange_iff pos).2 (Nat.not_lt.2 h))

theorem exec_flipBit_of_lt {pos : Byte} (h : 127 < pos.toNat) (s : State) :
    exec (.flipBit pos) s = raise .invalidBitPosition s :=
  if_neg (mt (positionInRange_iff pos).1 (not_not.2 h))

theorem exec_avalanche_of_le {pos : Byte} (h : pos.toNat ≤ 127) (target : Target) (s : State) :
    exec (.avalanche pos target 16) s =
      complete (s.setAvr (avrOf (avalancheRecord s.din s.rk pos.toNat target))) :=
  if_pos ((positionInRange_iff pos).2 (Nat.not_lt.2 h))

theorem exec_avalanche_of_lt {pos : Byte} (h : 127 < pos.toNat) (target : Target) (s : State) :
    exec (.avalanche pos target 16) s = raise .invalidBitPosition s :=
  if_neg (mt (positionInRange_iff pos).1 (not_not.2 h))

theorem exec_avalanche_of_ne {len : Byte} (h : len ≠ 16) (pos : Byte) (target : Target) (s : State) :
    exec (.avalanche pos target len) s = raise .invalidBlockLength s :=
  if_neg (mt (lengthIs16_iff len).1 h)

/-- A changed-bit count fits in one byte (R156). -/
theorem toNat_ofNat_of_le {n : Nat} (h : n ≤ 128) : (BitVec.ofNat 8 n).toNat = n := by
  rw [BitVec.toNat_ofNat, Nat.mod_eq_of_lt (by omega)]

/-! ## The obligations -/

/-- Settles O49: the mask has the one bit (p mod 8), and xor with it twice is no change. -/
theorem flipBitInvertsOneBit : Obligations.FlipBitInvertsOneBit :=
  ⟨fun x p i k _ _ => getLsbD_flipBit x p i k, flipBit_flipBit, by decide, by decide, by decide, by decide⟩

/-- Settles O50: the count is the Hamming distance of the two blocks as functions of byte and bit. -/
theorem changedBitsIsTheHammingDistance : Obligations.ChangedBitsIsTheHammingDistance :=
  ⟨countChangedBits_eq_hammingDist, fun x y => ⟨countChangedBits_le x y, countChangedBits_comm x y⟩,
    fun _ _ => countChangedBits_eq_zero, fun _ _ => countChangedBits_eq_all,
    fun x _ hp => countChangedBits_flipBit x hp⟩

/-- Settles O51: checkpoint 0 only adds the round key to the block, and round key 0 of an expansion is its key. -/
theorem firstAvalancheCountIsOne : Obligations.FirstAvalancheCountIsOne :=
  ⟨fun p w _ target hpos => avalancheRecord_zero p w hpos target, avalancheRecord_le⟩

/-- Settles O52: one changed byte becomes the four of a column in round 1, each with 1 to 8 changed bits, and no
checkpoint makes two blocks equal. -/
theorem plaintextFlipSpreads : Obligations.PlaintextFlipSpreads := by
  intro p w pos hpos
  have hstart : (changedBytes (checkpoint p w 0) (checkpoint (flipBit p pos) w 0)).card = 1 := by
    rw [checkpoint_zero, checkpoint_zero, changedBytes_addRoundKey, changedBytes_flipBit p hpos, Finset.card_singleton]
  have hround := card_changedBytes_fullRound hstart (roundKey w 1)
  rw [← checkpoint_full p w 0 (by decide), ← checkpoint_full _ w 0 (by decide)] at hround
  obtain ⟨hlower, hupper⟩ := countChangedBits_bounds (checkpoint p w 1) (checkpoint (flipBit p pos) w 1)
  rw [hround] at hlower hupper
  have hflip : p ≠ flipBit p pos := fun h => by
    simpa [countChangedBits_eq_zero.2 h] using countChangedBits_flipBit p hpos
  refine ⟨?_, ?_, fun i => ?_⟩
  · rw [avalancheRecord_plaintext]
    exact hlower
  · rw [avalancheRecord_plaintext]
    exact hupper
  · rw [Fin.getElem_fin, avalancheRecord_plaintext, ne_eq, countChangedBits_eq_zero]
    exact (checkpoint_injective w (by omega)).ne hflip

/-- Settles O53: the position is field A; B and C are reserved. -/
theorem flipBitWritesDout : Obligations.FlipBitWritesDout :=
  ⟨fun _ s h => (exec_flipBit_of_le h s).trans (complete_eq _), fun _ s h => exec_flipBit_of_lt h s,
    fun pos => runsAs_encode (i := .flipBit pos) rfl, fun _ _ _ => isIllegal_of_formatA (o := .flipBit) rfl,
    fun x => ⟨flipBit_get x 0 0 (by decide), flipBit_get x 7 0 (by decide), flipBit_get x 8 1 (by decide),
      flipBit_get x 127 15 (by decide)⟩, rfl, rfl, by decide⟩

/-- Settles O54: all fields but OP are reserved; the count and its corner cases are those of R152. -/
theorem hammingWritesRes : Obligations.HammingWritesRes := by
  refine ⟨fun s => ⟨BitVec.ofNat 8 (countChangedBits s.din s.ref), ?_⟩, runsAs_encode (i := .hamming) rfl,
    fun _ _ _ => isIllegal_of_formatZ (o := .hamming) rfl, fun x y => ?_, by decide⟩
  · have hcount := countChangedBits_le s.din s.ref
    rw [toNat_ofNat_of_le hcount]
    exact ⟨rfl, hcount, complete_eq _⟩
  · exact ⟨countChangedBits_eq_zero.2 rfl, countChangedBits_comm x y, countChangedBits_eq_all⟩

/-- Settles O55: the operands are the fields A, B and C; the length is checked before the position (R182), and TARGET
above 1 is out of its set. -/
theorem avalancheWritesAvr : Obligations.AvalancheWritesAvr := by
  refine ⟨fun pos target s h => ?_, fun pos target _ s h => exec_avalanche_of_ne h pos target s,
    fun _ target s h => exec_avalanche_of_lt h target s, fun pos len => ⟨?_, ?_⟩, fun a b c hb => ?_,
    fun p w pos i => ⟨?_, ?_⟩⟩
  · refine ⟨_, (exec_avalanche_of_le h target s).trans (complete_eq _), fun i => ?_⟩
    rw [Fin.getElem_fin, avrOf_get]
    exact ⟨toNat_ofNat_of_le (by omega), toNat_ofNat_of_le (avalancheRecord_le _ _ _ _ i)⟩
  · exact runsAs_encode (i := .avalanche pos .plaintext len) rfl
  · exact runsAs_encode (i := .avalanche pos .key len) rfl
  · exact isIllegal_of_operandsOf (o := .avalanche) (by simp [Opcode.byte]) (by simp [operandsOf, targetOf_eq_none hb])
  · exact avalancheRecord_plaintext p w pos i i.isLt
  · exact avalancheRecord_get p w pos .key i i.isLt

end Sys2Proof.Machine
end

section
/-! PROOFS. The data movement commands (45_data_movement.md): WRB (R170), RDB (R171) and COPY (R172). -/

namespace Sys2Proof.Machine

/-! ## The byte accesses (R170, R171) -/

/-- WRB completes where MemWrite succeeds, with the state that MemWrite gives (R170). -/
theorem exec_wrb_of_memWrite {a : Addr} {v : Byte} {s t : State} (h : memWrite a v s = some t) :
    exec (.wrb a v) s = .next (t.respond (okResponse 0x00)) := by
  obtain ⟨l, hl, hw⟩ := memWrite_eq_some h
  rw [← address_of_locate hl, exec_wrb_address hw]

/-- RDB raises BadAccess at an address that the host may not read (R171). -/
theorem exec_rdb_of_not_hostReadable {a : Addr} (h : hostReadable a = false) (s : State) :
    exec (.rdb a) s = raise .badAccess s := by
  change execRdb a s = _
  rw [execRdb, memRead_eq_none h]

/-- An address that the host may read is the address of a location (R41). -/
theorem exists_address_eq {a : Addr} (h : hostReadable a = true) : ∃ l : Location, l.address = a := by
  obtain ⟨l, hl⟩ := Option.isSome_iff_exists.1 ((isSome_locate a).trans h)
  exact ⟨l, address_of_locate hl⟩

/-- An RDB of STATUS after an RDB that raised BadAccess answers the STATUS with the bit ACC set (R171, R184). -/
theorem execAll_rdb_rdbStatus {a : Addr} (h : hostReadable a = false) (s : State) :
    execAll [.rdb a, .rdb 0x0061] s =
      .next (((s.setStatus (setSticky s.status .badAccess)).respond (errorResponse .badAccess)).respond
        (okResponse (setSticky s.status .badAccess))) := by
  have hraise := (exec_rdb_of_not_hostReadable h s).trans (raise_eq _ s)
  rw [execAll_cons hraise]
  exact execAll_cons (exec_rdb_address .status _) []

/-! ## The copied buffer (R172) -/

/-- COPY completes with the state that the write of the source's bytes to the destination gives (R172). -/
theorem exec_copy_of_writeBuffer {dst src : Buf} {s t : State} (h : writeBuffer dst (readBuffer src s) s = some t) :
    exec (.copy dst src) s = .next (t.respond (okResponse 0x00)) := by
  change execCopy dst src s = _
  rw [execCopy, h, ← complete_eq]

/-- Writing to a destination the bytes that it already holds changes nothing (R172). -/
theorem writeBuffer_readBuffer {b : Buf} (hb : b ≠ .dout) (s : State) : writeBuffer b (readBuffer b s) s = some s := by
  cases b with
  | dout => exact absurd rfl hb
  | keyin | din | ref => rfl

/-! ## The words (R64, R65, R67) -/

/-- In format MR the field A is reserved (R61). -/
theorem isIllegal_of_formatMR {o : Opcode} (ho : o.format = .mr) {a : Byte} {addr : Addr} (h : a ≠ 0x00) :
    IsIllegal (packAddrWord o.byte a addr) := by
  rw [packAddrWord_eq]
  exact isIllegal_of_reservedClear (o := o) (by simp) (by simpa [ho, reservedClear] using h)

/-- A COPY word is illegal if its field C is not zero or an operand is outside its set (R65, R67). -/
theorem isIllegal_copy {a b c : Byte} (h : c ≠ 0x00 ∨ 2 < a.toNat ∨ 3 < b.toNat) : IsIllegal (packWord 0x32 a b c) := by
  obtain hc | hab := h
  · exact isIllegal_of_formatAB (o := .copy) rfl hc
  · exact isIllegal_of_operandsOf (o := .copy) (by simp [Opcode.byte]) (operandsOf_copy_eq_none (by simpa using hab))

/-! ## The obligations -/

/-- Settles O56: MemWrite is framed by its address; every operand of WRB has its word. -/
theorem wrbWritesOneByte : Obligations.WrbWritesOneByte := by
  refine ⟨fun a v s ha => ?_, fun a v s ha => exec_wrb_of_memWrite_eq_none (memWrite_eq_none ha v s),
    fun a v => runsAs_encode (i := .wrb a v) rfl, by decide, by decide, by decide, rfl, rfl, by decide⟩
  obtain ⟨u, hu⟩ := exists_memWrite ha v s
  have hframe := framedBy_memWrite hu
  refine ⟨_, exec_wrb_of_memWrite hu, ?_, fun b hb => ?_, ?_, hframe.pending, hframe.resets⟩
  · rw [memRead_respond, memRead_memWrite_same hu]
  · rw [memRead_respond, hframe.memRead hb]
  · rw [State.respond_responses, hframe.responses]
    rfl

/-- Settles O57: the addresses that the host may read are those of the locations, where RDB answers the byte held; A is
reserved. -/
theorem rdbReadsOneByte : Obligations.RdbReadsOneByte := by
  refine ⟨fun a s ha => ?_, fun a s ha => exec_rdb_of_not_hostReadable ha s,
    fun a s ha => ⟨_, execAll_rdb_rdbStatus ha s, rfl, List.append_assoc _ _ _⟩, fun s hdout => ⟨?_, ?_⟩,
    fun a => runsAs_encode (i := .rdb a) rfl, fun _ _ => isIllegal_of_formatMR (o := .rdb) rfl, rfl, rfl, rfl,
    by decide⟩
  · obtain ⟨l, rfl⟩ := exists_address_eq ha
    exact ⟨_, memRead_address l s, exec_rdb_address l s⟩
  · have hbyte : readAt (.dout 0) s = 0x69 := by rw [readAt, hdout]; decide
    exact hbyte ▸ exec_rdb_address (.dout 0) s
  · have hbyte : readAt (.dout 15) s = 0x5A := by rw [readAt, hdout]; decide
    exact hbyte ▸ exec_rdb_address (.dout 15) s

/-- Settles O58: the source is read before the destination is written; the destination is field A, the source field B,
and C is reserved. -/
theorem copyMovesABuffer : Obligations.CopyMovesABuffer :=
  ⟨fun _ _ => ⟨exec_copy_of_writeBuffer rfl, exec_copy_of_writeBuffer rfl, exec_copy_of_writeBuffer rfl⟩,
    fun _ => ⟨rfl, rfl, rfl, rfl⟩, fun _ s hb => exec_copy_of_writeBuffer (writeBuffer_readBuffer hb s),
    fun dst src hdst => runsAs_encode (i := .copy dst src) (decide_eq_true hdst), fun _ _ _ => isIllegal_copy, rfl,
    isIllegal_copy (a := 0x03) (b := 0x01) (c := 0x00) (by decide)⟩

end Sys2Proof.Machine
end

section
/-! PROOFS. The exceptions (60_exceptions.md): what raising an error does (R184), which error a command raises (R181 to
R183), the sticky bits (R185), and the idle core (R194). -/

namespace Sys2Proof.Machine

/-! ## One sticky bit (R184) -/

/-- Setting a sticky bit changes the bit of that number and no other. -/
theorem getLsbD_setSticky (st : Byte) (e : CmdError) {k : Nat} (hk : k < 8) :
    (setSticky st e).getLsbD k = (st.getLsbD k || decide (k = e.bit)) := by
  rw [setSticky, ← BitVec.twoPow_eq, BitVec.getLsbD_or, ← BitVec.getElem_twoPow hk, ← BitVec.getLsbD_eq_getElem]

/-- An error leaves every location but STATUS as it was. -/
theorem readAt_raised {l : Location} (hl : l ≠ .status) (s : State) (b : Byte) (r : Response) :
    readAt l ((s.setStatus b).respond r) = readAt l s := by
  rw [readAt_respond, readAt_setStatus hl]

/-! ## The error of a command (R181 to R183) -/

theorem exec_of_errorOf_eq_some {i : Instr} {e : CmdError} (h : errorOf i = some e) (s : State) :
    exec i s = raise e s := by
  have hanswer := exec_answersWithin i s
  rw [h] at hanswer
  generalize exec i s = r at hanswer ⊢
  cases hanswer with
  | raises => rfl

theorem exec_of_errorOf_eq_none {i : Instr} (h : errorOf i = none) (s : State) :
    ∃ (u : State) (d : Byte), FramedBy (mayWrite i) s u ∧ exec i s = completeWith d u := by
  have hanswer := exec_answersWithin i s
  rw [h] at hanswer
  generalize exec i s = r at hanswer ⊢
  cases hanswer with
  | completes d hframe => exact ⟨_, d, hframe, rfl⟩

/-! ## The sticky bits in a run (R185) -/

/-- An accepted word leaves set what was set: an error adds its own bit, and a success leaves STATUS. -/
theorem statusShows_of_executeWord {w : Word} {s t : State} {e : CmdError} (hexec : executeWord w s = .next t)
    (h : statusShows s.status e = true) : statusShows t.status e = true := by
  obtain ⟨f, hraise⟩ | ⟨u, d, hnext, hstatus, -⟩ := executeWord_answers w s
  · cases hexec.symm.trans hraise
    simp [statusShows_setSticky, h]
  · cases hexec.symm.trans hnext
    rw [State.respond_status, hstatus, h]

/-- Every code from 1 to 5 is the code of an error (R180). -/
theorem exists_code_eq {c : BitVec 3} (h0 : c ≠ 0) (h5 : c.toNat ≤ 5) : ∃ e : CmdError, e.code = c := by
  have hcases : c = 1 ∨ c = 2 ∨ c = 3 ∨ c = 4 ∨ c = 5 := by bv_omega
  obtain rfl | rfl | rfl | rfl | rfl := hcases
  · exact ⟨.invalidKeyLength, rfl⟩
  · exact ⟨.invalidBlockLength, rfl⟩
  · exact ⟨.invalidBitPosition, rfl⟩
  · exact ⟨.illegalCommand, rfl⟩
  · exact ⟨.badAccess, rfl⟩

/-- Every bit number below 5 is that of an error's sticky bit (R29). -/
theorem exists_bit_eq {k : Nat} (h : k < 5) : ∃ e : CmdError, e.bit = k := by
  match k, h with
  | 0, _ => exact ⟨.invalidKeyLength, rfl⟩
  | 1, _ => exact ⟨.invalidBlockLength, rfl⟩
  | 2, _ => exact ⟨.invalidBitPosition, rfl⟩
  | 3, _ => exact ⟨.illegalCommand, rfl⟩
  | 4, _ => exact ⟨.badAccess, rfl⟩

/-- The bits of STATUS are the five sticky bits and the three reserved ones (R29). -/
theorem status_eq_zero_iff {st : Byte} (hreserved : statusReserved st = 0) :
    st = 0x00 ↔ ∀ e : CmdError, statusShows st e = false := by
  refine ⟨fun h e => by simp [h, statusShows], fun h => BitVec.eq_of_getLsbD_eq fun k hk => ?_⟩
  suffices hzero : st.getLsbD k = false by simpa using hzero
  by_cases hsticky : k < 5
  · obtain ⟨e, rfl⟩ := exists_bit_eq hsticky
    exact h e
  · have hbit : (statusReserved st).getLsbD (k - 5) = st.getLsbD k := by
      simp [statusReserved, show k - 5 < 3 by omega, show 5 + (k - 5) = k by omega]
    simp [← hbit, hreserved]

/-- In a run a sticky bit is 0 exactly when no response since the reset carries its error's code. -/
theorem RunInv.statusShows_eq_false {s : State} (h : RunInv s) (e : CmdError) :
    statusShows s.status e = false ↔ ∀ r ∈ s.responses, r.err ≠ e.code := by
  simp [← Bool.not_eq_true, h.sticky_iff]

/-- In a run STATUS is 0x00 exactly when no error has occurred since the reset (R185). -/
theorem RunInv.status_eq_zero {s : State} (h : RunInv s) : s.status = 0x00 ↔ ∀ r ∈ s.responses, r.err = 0 := by
  simp only [status_eq_zero_iff h.reserved_zero, h.statusShows_eq_false]
  constructor
  · intro hnone r hr
    by_contra hne
    obtain ⟨e, he⟩ := exists_code_eq hne (h.codes_legal r hr)
    exact hnone e r hr he.symm
  · intro hzero e r hr
    rw [hzero r hr]
    exact e.code_ne_zero.symm

/-! ## The idle core (R194, R205) -/

theorem step_of_pending_nil {s : State} (h : s.pending = []) : step s = .next s := by
  rw [step, serveNext, h]

/-! ## The obligations -/

/-- Settles O13: no word clears a bit, so a step that clears one served a reset; in a run the sticky bits account for
the codes of the responses. -/
theorem onlyResetClearsStickyBits : Obligations.OnlyResetClearsStickyBits := by
  refine ⟨fun w s t e hstep => statusShows_of_executeWord hstep, fun s t e hstep hset hclear => ?_,
    fun s h => h.status_eq_zero⟩
  obtain ⟨-, rfl⟩ | ⟨w, rest, -, hexec⟩ | ⟨rest, hreset | ⟨w, hreset⟩, -⟩ := step_cases hstep
  · cases hset.symm.trans hclear
  · cases (statusShows_of_executeWord hexec hset).symm.trans hclear
  · exact ⟨rest, .inl hreset⟩
  · exact ⟨rest, .inr ⟨w, hreset⟩⟩

/-- Settles O18: a command raises the error of the table or, if it has none, completes within its frame. -/
theorem errorsComeFromTheWordAlone : Obligations.ErrorsComeFromTheWordAlone := by
  refine fun i s => ⟨fun e herr => exec_of_errorOf_eq_some herr s, fun hnone => ?_⟩
  obtain ⟨u, d, hframe, hexec⟩ := exec_of_errorOf_eq_none hnone s
  refine ⟨_, d, hexec.trans (completeWith_eq d u), hframe.status, ?_⟩
  rw [State.respond_responses, hframe.responses, okResponse]

/-- Settles O8: a step with nothing to serve keeps the state, and serving a violation is refused. -/
theorem idleCoreKeepsItsState : Obligations.IdleCoreKeepsItsState :=
  ⟨fun _ hidle => step_of_pending_nil hidle, fun _ _ hviolation => step_of_pending_cons hviolation⟩

/-- Settles O17: raising an error sets its bit of STATUS and gives its response. -/
theorem raiseSetsOneStickyBit : Obligations.RaiseSetsOneStickyBit := by
  refine ⟨fun e s => ⟨_, raise_eq e s, fun k hk => getLsbD_setSticky s.status e hk, rfl,
    fun l hl => readAt_raised hl s _ _, rfl, rfl⟩, ?_⟩
  decide

end Sys2Proof.Machine
end

section
/-! PROOFS. Reset and hazards (70_reset_and_hazards.md): what the reset transition forgets (R200, R201), and that every
run of command words is answered and consumed (R205, R207). -/

namespace Sys2Proof.Machine

/-! ## The reset transition (R200, R201) -/

/-- A reset between commands and a reset inside one leave the same state. -/
theorem step_of_pending_reset {s : State} {w : Word} {rest : List HostEvent}
    (h : s.pending = .reset :: rest ∨ s.pending = .resetDuring w :: rest) :
    step s = .next (State.atReset (s.resets + 1) rest) := by
  obtain hbetween | hinside := h
  · exact step_of_pending_cons hbetween
  · exact step_of_pending_cons hinside

/-! ## The run of a list of words (R205, R207) -/

/-- A run of one step more is the step it begins with and the run from there. -/
theorem run_succ_of_step {M : Host.Core} {s u : M.State} (h : M.step s = .next u) (n : Nat) :
    M.run (n + 1) s = M.run n u := by
  rw [Host.Core.run, h]

/-- A command word at the head of the queue is taken off it and answered once, whatever the word and the state. -/
theorem step_of_pending_command {s : State} {w : Word} {rest : List HostEvent} (h : s.pending = .command w :: rest) :
    ∃ t, step s = .next t ∧ t.pending = rest ∧ t.responses.length = s.responses.length + 1 ∧ t.resets = s.resets := by
  have hstep : step s = executeWord w (s.setPending rest) := step_of_pending_cons h
  obtain ⟨e, hraise⟩ | ⟨u, d, hnext, -, hpending, hresponses, hresets⟩ := executeWord_answers w (s.setPending rest)
  · exact ⟨_, hstep.trans (hraise.trans (raise_eq _ _)), rfl, by simp, rfl⟩
  · exact ⟨_, hstep.trans hnext, hpending, by simp [hresponses], hresets⟩

/-! ## The obligations -/

/-- Settles O15, by induction on the words: each step takes one word off the port and answers it. -/
theorem everyRunIsAnswered : Obligations.EveryRunIsAnswered := by
  intro ws
  induction ws with
  | nil => exact fun s hpending => ⟨s, rfl, hpending, rfl, rfl⟩
  | cons w ws ih =>
    intro s hpending
    obtain ⟨u, hstep, hrest, hresponses, hresets⟩ := step_of_pending_command hpending
    obtain ⟨t, hrun, hempty, hcount, hkept⟩ := ih u hrest
    refine ⟨t, (run_succ_of_step (M := core) hstep _).trans hrun, hempty, ?_, hkept.trans hresets⟩
    rw [hcount, hresponses, List.length_cons]
    omega

/-- Settles O10: both reset events leave the reset transition's state with the next number. -/
theorem resetTransitionForgetsEverything : Obligations.ResetTransitionForgetsEverything := fun _ _ rest h =>
  ⟨_, step_of_pending_reset h, rfl, rfl, rfl, rfl, fun _ ha hr => memRead_atReset ha hr _ rest⟩

end Sys2Proof.Machine
end
